-- ==== Sys2Proof/Word.lean ====
section
/-! DEFINITION. The widths of the block (00_scope.md R6, R8; 10_state.md): every data path is a byte, the configuration
and request fields are 16 bits, the host data port is 48 bits. -/
namespace Sys2Proof

/-- A byte (R8). -/
abbrev Byte := BitVec 8

/-- A 16-bit configuration or request field (R6, R22, R35). -/
abbrev Half := BitVec 16

/-- The six data bytes of a data send, byte k at bits `8k+7:8k` (R22, R73). -/
abbrev Data6 := BitVec 48

/-- A FIFO pointer: an AW-bit value, AW at most 8, held zero-extended in 8 bits (R26, R29; R5 for AW). -/
abbrev Ptr := BitVec 8

end Sys2Proof
end

