-- ==== Sys2Proof/Config.lean ====
section
/-! DEFINITION. The parameters of 00_scope.md R5, each a field with the range R5 gives it, and the fixed protocol
constants of 30_encoding.md R92 to R95 and R101. The model takes the parameters as an argument: State carries them. -/
namespace Sys2Proof

/-- The two legal values of `ANNOUNCE_ID` (R5, U20). -/
inductive AnnounceId where
  | broadcast4E
  | acknowledged4F
  deriving DecidableEq, Repr

/-- The message id that `ANNOUNCE_ID` stands for (R5, R206). -/
def AnnounceId.byte : AnnounceId → Byte
  | .broadcast4E => 0x4E
  | .acknowledged4F => 0x4F

/-- The implementation parameters of R5. `AW` and `S` are kept in a form in which every value is legal. -/
structure Params where
  /-- `AW - 1`; AW is 1 to 8 (R5). -/
  awMinusOne : Fin 8
  /-- `S - 2`; S is at least 2 (R5). -/
  extraSync : Nat
  /-- `NETWORK_NUMBER` (R5, D28). -/
  networkNumber : Byte
  /-- `CHTYPE_MASTER` (R5, D29). -/
  chtypeMaster : Byte
  /-- `CHTYPE_SLAVE` (R5, D29). -/
  chtypeSlave : Byte
  /-- `DEVICE_TYPE` (R5, D30). -/
  deviceType : Byte
  /-- `TRANS_TYPE` (R5, D30). -/
  transType : Byte
  /-- `MSG_CAP_REQ`, any byte but 0xA4 (R5, D31). -/
  msgCapReq : Byte
  /-- `ANNOUNCE_ID` (R5, D19). -/
  announceId : AnnounceId
  deriving DecidableEq, Repr

/-- The default column of R5: the values this spec's hardware takes. -/
def Params.default : Params where
  awMinusOne := 7
  extraSync := 0
  networkNumber := 0x00
  chtypeMaster := 0x10
  chtypeSlave := 0x00
  deviceType := 0x00
  transType := 0x00
  msgCapReq := 0x4D
  announceId := .broadcast4E

/-- `AW` (R5). -/
def Params.aw (p : Params) : Nat := p.awMinusOne.val + 1

/-- `S`, the number of flip-flops in each pointer synchroniser (R5). -/
def Params.syncStages (p : Params) : Nat := p.extraSync + 2

/-- `DEPTH = 2^AW` (R5). -/
def Params.depth (p : Params) : Nat := 2 ^ p.aw

/-- `CAPACITY = 2^AW - 1` (R5). -/
def Params.capacity (p : Params) : Nat := p.depth - 1

/-- The one restriction R5 sets that the type does not: `MSG_CAP_REQ` is not 0xA4. -/
def Params.legal (p : Params) : Bool := p.msgCapReq != 0xA4

/-- `SYNC` (R92). -/
abbrev SYNC : Byte := 0xA4

/-- `MAX_PAYLOAD` (R5, R101). -/
abbrev MAX_PAYLOAD : Nat := 17

/-- `FB_SIZE = MAX_PAYLOAD + 4`, the bytes of the frame buffer (R5). -/
abbrev FB_SIZE : Nat := 21

/-- `TXB_SIZE`, the bytes of the transmit buffer (R5). -/
abbrev TXB_SIZE : Nat := 13

/-- `CHANNEL`, the single logical channel (R5, R207). -/
abbrev CHANNEL : Byte := 0x00

/-- The message id of a response/event frame (R93). -/
abbrev ID_EVENT : Byte := 0x40

/-- The message id of a broadcast-data frame (R93). -/
abbrev ID_BROADCAST : Byte := 0x4E

end Sys2Proof
end

