-- ==== Sys2Proof/Syntax.lean ====
section
/-! DEFINITION. The operations of the block: one constructor per row of `spec/opcode_table.json` (R16: "Each has one rule
and one row"). The five groups are the five formats of R113. A row's operands are what its encoding carries: the popped
byte `b`, the complete frame `F`, the argument fields of an outbound frame (R98), the free bits of a reserved host kind.
A port row carries nothing: its operand ports are sampled from the state at the edge (R347). -/
namespace Sys2Proof

/-- The rows of `spec/opcode_table.json`. -/
inductive Instr where
  -- Frame rows (43_dispatcher.md): the complete frame `F`, sync to checksum.
  /-- R234. -/
  | checksumError (F : List Byte)
  /-- R222. -/
  | eventMalformed (F : List Byte)
  /-- R223. -/
  | functionResponse (F : List Byte)
  /-- R224. -/
  | eventNoErrorAck (F : List Byte)
  /-- R225. -/
  | eventNoErrorIgnored (F : List Byte)
  /-- R226. -/
  | eventSearchTimeout (F : List Byte)
  /-- R227. -/
  | eventRxFail (F : List Byte)
  /-- R228. -/
  | eventTxComplete (F : List Byte)
  /-- R229. -/
  | eventTxCompleteNoCallback (F : List Byte)
  /-- R230. -/
  | eventOther (F : List Byte)
  /-- R231. -/
  | broadcast (F : List Byte)
  /-- R232. -/
  | broadcastNoCallback (F : List Byte)
  /-- R233. -/
  | otherMessage (F : List Byte)
  -- Outbound rows (42_encoder.md): the argument fields of R98.
  /-- R196. -/
  | systemReset
  /-- R197. -/
  | capabilityRequest (target : Byte)
  /-- R198. -/
  | assignChannel (channelType networkNumber : Byte)
  /-- R199. -/
  | setChannelId (deviceId : Half) (deviceType transType : Byte)
  /-- R200. -/
  | setPeriod (period : Half)
  /-- R201. -/
  | setFrequency (freq : Byte)
  /-- R202. -/
  | setSearchTimeout (timeout : Byte)
  /-- R203. -/
  | openChannel
  /-- R204. -/
  | broadcastData (addr : Half) (data : Data6)
  /-- R205. -/
  | acknowledgedData (addr : Half) (data : Data6)
  /-- R206. -/
  | addressAnnounce (addr : Half)
  -- Host rows (30_encoding.md R103, R106).
  /-- Kind 0x0 (R103, R196). -/
  | hostKReset
  /-- Kind 0x1 (R103, R197). -/
  | hostKCapreq
  /-- Kind 0x2 (R103, R198). -/
  | hostKAssign
  /-- Kind 0x3 (R103, R199). -/
  | hostKChid
  /-- Kind 0x4 (R103, R200). -/
  | hostKPeriod
  /-- Kind 0x5 (R103, R201). -/
  | hostKFreq
  /-- Kind 0x6 (R103, R202). -/
  | hostKStimeout
  /-- Kind 0x7 (R103, R203). -/
  | hostKOpen
  /-- Kind 0x8 (R103, R204). -/
  | hostKBcast
  /-- Kind 0x9 (R103, R205). -/
  | hostKAckdata
  /-- Kinds 0xA and 0xB: match 0xA, mask 0xE, so bit 0 is free (R106, R286). -/
  | hostReservedAB (low : BitVec 1)
  /-- Kinds 0xC to 0xF: match 0xC, mask 0xC, so bits 1:0 are free (R106, R286). -/
  | hostReservedCF (low : BitVec 2)
  -- Assembler rows (41_frame_assembler.md): the popped byte, where it is not fixed by the match.
  /-- R161. -/
  | huntDiscard (b : Byte)
  /-- R162; the byte is 0xA4. -/
  | huntSync
  /-- R163; the byte is 0xA4. -/
  | resync
  /-- R164. -/
  | length (b : Byte)
  /-- R165. -/
  | lengthInvalid (b : Byte)
  /-- R166. -/
  | messageId (b : Byte)
  /-- R167. -/
  | payloadByte (b : Byte)
  /-- R168. -/
  | checksumByte (b : Byte)
  -- Port rows (30_encoding.md R114).
  /-- R131. -/
  | push
  /-- R132. -/
  | pushDrop
  /-- R138. -/
  | wIdle
  /-- R192. -/
  | txByte
  /-- R193. -/
  | txStall
  /-- R252. -/
  | start
  /-- R285. -/
  | hostReq
  /-- R135. -/
  | pop
  /-- The first row of R_IDLE: stage Idle and `start = 0` (R260). -/
  | rIdleInIdle
  /-- The second row of R_IDLE: running, FIFO empty, no request (R145). -/
  | rIdleNoRequest
  /-- The third row of R_IDLE: running, FIFO empty, the request not ready (R145). -/
  | rIdleNotReady
  deriving DecidableEq, Repr

/-- The classes of R221 and the checksum-error report of R234: which frame row a complete frame takes. -/
inductive FrameClass where
  | checksumError
  | eventMalformed
  | functionResponse
  | eventNoErrorAck
  | eventNoErrorIgnored
  | eventSearchTimeout
  | eventRxFail
  | eventTxComplete
  | eventTxCompleteNoCallback
  | eventOther
  | broadcast
  | broadcastNoCallback
  | otherMessage
  deriving DecidableEq, Repr

/-- The cases of R161 to R168: which assembler row a popped byte takes. -/
inductive AsmCase where
  | huntDiscard
  | huntSync
  | resync
  | length
  | lengthInvalid
  | messageId
  | payloadByte
  | checksumByte
  deriving DecidableEq, Repr

/-- The commands inside the encoder: the ten kinds of R103 and the internal kind of R206. -/
inductive TxKind where
  | kReset
  | kCapreq
  | kAssign
  | kChid
  | kPeriod
  | kFreq
  | kStimeout
  | kOpen
  | kBcast
  | kAckdata
  | announce
  deriving DecidableEq, Repr

/-- The condition signals of the frame rows: `waiting` (R44) and the two callback enables (R35). -/
structure FrameSignals where
  waiting : Bool
  bcastEn : Bool
  txcEn : Bool
  deriving DecidableEq, Repr

/-- The condition signals of the assembler rows: `fa_in`, `fa_pos` and `fa_buf[1]` (R113). -/
structure AsmSignals where
  faIn : Bool
  faPos : BitVec 5
  faLen : Byte
  deriving DecidableEq, Repr

end Sys2Proof
end

