-- ==== Sys2Proof/Machine/Operands.lean ====
section
/-! DEFINITION. The operand forms, all without state: gray code and pointer arithmetic (00_scope.md R11, R139), byte order
(R72, R73, R97), frames and their checksum (R90, R96), the case of a popped byte (R160), the class of a frame (R221), the
frame of an outbound command (R191, R195 to R206), the kind of a host request (R103, R106). -/
namespace Sys2Proof

/-! ### Pointers -/

/-- The AW-bit mask `2^AW - 1`. -/
def Params.mask (p : Params) : Ptr := BitVec.ofNat 8 (2 ^ p.aw - 1)

/-- `gray(b) = b ^ (b >> 1)` (R11). -/
def gray (b : Ptr) : Ptr := b ^^^ (b >>> 1)

/-- `bin(g)`: bit i is the XOR of bits AW-1 down to i of `g` (R11); the bits of a pointer above AW are 0. -/
def bin (g : Ptr) : Ptr :=
  g ^^^ (g >>> 1) ^^^ (g >>> 2) ^^^ (g >>> 3) ^^^ (g >>> 4) ^^^ (g >>> 5) ^^^ (g >>> 6) ^^^ (g >>> 7)

/-- `a + 1` modulo `2^AW` (R139). -/
def Params.inc (p : Params) (a : Ptr) : Ptr := (a + 1) &&& p.mask

/-- `(b - a) mod 2^AW`: how far `b` is ahead of `a` (R46, R139). -/
def Params.dist (p : Params) (a b : Ptr) : Ptr := (b - a) &&& p.mask

/-! ### Byte order -/

/-- `v[7:0]`, the byte of a 16-bit field sent first (R72, R97). -/
def loByte (v : Half) : Byte := v.extractLsb' 0 8

/-- `v[15:8]`, the byte of a 16-bit field sent second (R72, R97). -/
def hiByte (v : Half) : Byte := v.extractLsb' 8 8

/-- The 16-bit field read back from two bytes in wire order: `{second, first}` (R73, R97). -/
def half (first second : Byte) : Half := second ++ first

/-- Byte k of `host_req_data`: bits `8k+7:8k` (R73). -/
def Data6.byte (d : Data6) (k : Nat) : Byte := d.extractLsb' (8 * k) 8

/-- `D0` to `D5` in the order they are sent (R73, R98). -/
def dataBytes (d : Data6) : List Byte :=
  [Data6.byte d 0, Data6.byte d 1, Data6.byte d 2, Data6.byte d 3, Data6.byte d 4, Data6.byte d 5]

/-- The 48-bit port value whose byte k is the k-th of the six (R73). -/
def packData (d0 d1 d2 d3 d4 d5 : Byte) : Data6 := d5 ++ d4 ++ d3 ++ d2 ++ d1 ++ d0

/-! ### Frames -/

/-- The 8-bit XOR of a byte sequence (R96, R169). -/
def xorAll (bs : List Byte) : Byte := bs.foldl (· ^^^ ·) 0

/-- `F[i]` (R9). Used for an `i` below the frame's byte count. -/
def frameByte (F : List Byte) (i : Nat) : Byte := F.getD i 0

/-- The byte count agrees with the length byte, `n = L + 4`, and `L` is at most 17 (R90, R100, R101). -/
def frameShape (F : List Byte) : Bool :=
  F.length == (frameByte F 1).toNat + 4 && (frameByte F 1).toNat ≤ MAX_PAYLOAD

/-- The frame invariant `F[L+3] = F[0] ^ ... ^ F[L+2]` (R96): the XOR of the whole frame is 0. -/
def checksumOk (F : List Byte) : Bool := xorAll F == 0

/-- What the assembler can complete: the shape, a sync at index 0 and no sync after it (R90, R107). -/
def candidateFrame (F : List Byte) : Bool :=
  frameShape F && frameByte F 0 == SYNC && !(F.tail.contains SYNC)

/-- The class of a frame whose checksum matched, in the order of R221. -/
def classify (sig : FrameSignals) (F : List Byte) : FrameClass :=
  if frameByte F 2 = ID_EVENT then
    if (frameByte F 1).toNat < 3 then .eventMalformed
    else if frameByte F 4 ≠ 0x01 then .functionResponse
    else if frameByte F 5 = 0x00 then (if sig.waiting then .eventNoErrorAck else .eventNoErrorIgnored)
    else if frameByte F 5 = 0x01 then .eventSearchTimeout
    else if frameByte F 5 = 0x02 then .eventRxFail
    else if frameByte F 5 = 0x03 then (if sig.txcEn then .eventTxComplete else .eventTxCompleteNoCallback)
    else .eventOther
  else if frameByte F 2 = ID_BROADCAST then (if sig.bcastEn then .broadcast else .broadcastNoCallback)
  else .otherMessage

/-- The class of any complete frame: the checksum is looked at first (R168, R170, R171). -/
def frameClass (sig : FrameSignals) (F : List Byte) : FrameClass :=
  if checksumOk F then classify sig F else .checksumError

/-- The case a popped byte takes, tried in the order of R161 to R168. `none` only in states that R33 excludes. -/
def asmCase (sig : AsmSignals) (b : Byte) : Option AsmCase :=
  if sig.faIn = false then (if b = SYNC then some .huntSync else some .huntDiscard)
  else if b = SYNC then some .resync
  else if sig.faPos = 1 then (if b.toNat ≤ MAX_PAYLOAD then some .length else some .lengthInvalid)
  else if sig.faPos = 2 then some .messageId
  else if 3 ≤ sig.faPos.toNat ∧ sig.faPos.toNat ≤ MAX_PAYLOAD + 3 then
    if sig.faPos.toNat < sig.faLen.toNat + 3 then some .payloadByte
    else if sig.faPos.toNat = sig.faLen.toNat + 3 then some .checksumByte
    else none
  else none

/-- The row of class `c` for the frame `F`. -/
def FrameClass.row (F : List Byte) : FrameClass → Instr
  | .checksumError => .checksumError F
  | .eventMalformed => .eventMalformed F
  | .functionResponse => .functionResponse F
  | .eventNoErrorAck => .eventNoErrorAck F
  | .eventNoErrorIgnored => .eventNoErrorIgnored F
  | .eventSearchTimeout => .eventSearchTimeout F
  | .eventRxFail => .eventRxFail F
  | .eventTxComplete => .eventTxComplete F
  | .eventTxCompleteNoCallback => .eventTxCompleteNoCallback F
  | .eventOther => .eventOther F
  | .broadcast => .broadcast F
  | .broadcastNoCallback => .broadcastNoCallback F
  | .otherMessage => .otherMessage F

/-- The row of case `c` for the popped byte `b`. -/
def AsmCase.row (b : Byte) : AsmCase → Instr
  | .huntDiscard => .huntDiscard b
  | .huntSync => .huntSync
  | .resync => .resync
  | .length => .length b
  | .lengthInvalid => .lengthInvalid b
  | .messageId => .messageId b
  | .payloadByte => .payloadByte b
  | .checksumByte => .checksumByte b

/-! ### Outbound commands -/

/-- `build(id, P)` (R191): sync, length, id, payload, checksum; nothing is escaped. -/
def build (id : Byte) (P : List Byte) : List Byte :=
  let T := [SYNC, BitVec.ofNat 8 P.length, id] ++ P
  T ++ [xorAll T]

/-- The message id of a command (R93, R196 to R206). -/
def TxKind.id (p : Params) : TxKind → Byte
  | .kReset => 0x4A
  | .kCapreq => p.msgCapReq
  | .kAssign => 0x42
  | .kChid => 0x51
  | .kPeriod => 0x43
  | .kFreq => 0x45
  | .kStimeout => 0x44
  | .kOpen => 0x4B
  | .kBcast => 0x4E
  | .kAckdata => 0x4F
  | .announce => p.announceId.byte

/-- The payload byte count of a command (R98, R206). -/
def TxKind.len : TxKind → Nat
  | .kReset => 1
  | .kCapreq => 2
  | .kAssign => 3
  | .kChid => 5
  | .kPeriod => 3
  | .kFreq => 2
  | .kStimeout => 2
  | .kOpen => 1
  | .kBcast => 9
  | .kAckdata => 9
  | .announce => 9

/-- The payload of a command that carries an address and six data bytes (R204, R205, R206). -/
def dataPayload (addr : Half) (d : List Byte) : List Byte := [CHANNEL, loByte addr, hiByte addr] ++ d

/-- The announce command's "fixed 6-byte payload of all-ones" (R206). -/
def allOnes : List Byte := [0xFF, 0xFF, 0xFF, 0xFF, 0xFF, 0xFF]

/-! ### Host request kinds -/

/-- The row of a 4-bit `host_req_kind` (R103, R106), total on the sixteen codes. -/
def hostRow (kind : BitVec 4) : Instr :=
  match kind.toNat with
  | 0x0 => .hostKReset
  | 0x1 => .hostKCapreq
  | 0x2 => .hostKAssign
  | 0x3 => .hostKChid
  | 0x4 => .hostKPeriod
  | 0x5 => .hostKFreq
  | 0x6 => .hostKStimeout
  | 0x7 => .hostKOpen
  | 0x8 => .hostKBcast
  | 0x9 => .hostKAckdata
  | 0xA => .hostReservedAB 0
  | 0xB => .hostReservedAB 1
  | _ => .hostReservedCF (kind.extractLsb' 0 2)

/-- The code of a host row (R103): the reserved rows' free bits fill their don't-care bits. -/
def reservedABKind (low : BitVec 1) : BitVec 4 := 0b101#3 ++ low

/-- The code of a host row C to F. -/
def reservedCFKind (low : BitVec 2) : BitVec 4 := 0b11#2 ++ low

end Sys2Proof
end

