-- ==== Sys2Proof/WellFormed.lean ====
section
/-! DEFINITION. Which operands a row of the opcode table can have. Only the frame rows restrict theirs: a frame row's
operand is a frame the assembler can complete (R90, R101, R107) whose class, with the row's own condition signals, is the
row's (R113, R221); an assembler row's byte must meet the row's condition on `b` (R161 to R168). Every other operand field
takes every value ("Encoding failures are not possible by construction", R190). -/
namespace Sys2Proof

/-- The condition signals each frame row asks for in the opcode table; where it asks for none, all are 0. -/
def FrameClass.signals : FrameClass → FrameSignals
  | .eventNoErrorAck => ⟨true, false, false⟩
  | .eventTxComplete => ⟨false, false, true⟩
  | .broadcast => ⟨false, true, false⟩
  | _ => ⟨false, false, false⟩

/-- A well-formed operand of the frame row `c`. -/
def frameOperandOk (c : FrameClass) (F : List Byte) : Bool :=
  candidateFrame F && frameClass c.signals F == c

/-- The check of R190 and R113, row by row. -/
def wellFormed : Instr → Bool
  | .checksumError F => frameOperandOk .checksumError F
  | .eventMalformed F => frameOperandOk .eventMalformed F
  | .functionResponse F => frameOperandOk .functionResponse F
  | .eventNoErrorAck F => frameOperandOk .eventNoErrorAck F
  | .eventNoErrorIgnored F => frameOperandOk .eventNoErrorIgnored F
  | .eventSearchTimeout F => frameOperandOk .eventSearchTimeout F
  | .eventRxFail F => frameOperandOk .eventRxFail F
  | .eventTxComplete F => frameOperandOk .eventTxComplete F
  | .eventTxCompleteNoCallback F => frameOperandOk .eventTxCompleteNoCallback F
  | .eventOther F => frameOperandOk .eventOther F
  | .broadcast F => frameOperandOk .broadcast F
  | .broadcastNoCallback F => frameOperandOk .broadcastNoCallback F
  | .otherMessage F => frameOperandOk .otherMessage F
  | .systemReset => true
  | .capabilityRequest _ => true
  | .assignChannel _ _ => true
  | .setChannelId _ _ _ => true
  | .setPeriod _ => true
  | .setFrequency _ => true
  | .setSearchTimeout _ => true
  | .openChannel => true
  | .broadcastData _ _ => true
  | .acknowledgedData _ _ => true
  | .addressAnnounce _ => true
  | .hostKReset => true
  | .hostKCapreq => true
  | .hostKAssign => true
  | .hostKChid => true
  | .hostKPeriod => true
  | .hostKFreq => true
  | .hostKStimeout => true
  | .hostKOpen => true
  | .hostKBcast => true
  | .hostKAckdata => true
  | .hostReservedAB _ => true
  | .hostReservedCF _ => true
  | .huntDiscard b => b != SYNC
  | .huntSync => true
  | .resync => true
  | .length b => b != SYNC && b.toNat ≤ MAX_PAYLOAD
  | .lengthInvalid b => b != SYNC && MAX_PAYLOAD < b.toNat
  | .messageId b => b != SYNC
  | .payloadByte b => b != SYNC
  | .checksumByte b => b != SYNC
  | .push => true
  | .pushDrop => true
  | .wIdle => true
  | .txByte => true
  | .txStall => true
  | .start => true
  | .hostReq => true
  | .pop => true
  | .rIdleInIdle => true
  | .rIdleNoRequest => true
  | .rIdleNotReady => true

end Sys2Proof
end

