-- ==== Sys2Proof/Decode.lean ====
section
/-! DEFINITION. The decoder and the encoder (30_encoding.md; R113, R114). The opcode table has five formats, each with a
key space of its own: the format is known from where the bits stand (a control-signal sample, the host port, a popped byte,
a completed frame, an outbound frame), so a word of this block is a `TableWord`, not a bare number. The rows are written as
the table writes them, in increasing priority; the first row whose match, mask and condition hold is taken (R113). -/
namespace Sys2Proof

/-- What is decoded: the bits of one format, with the condition signals that the table's `condition` column names. -/
inductive TableWord where
  /-- `wr_en wr_full`, the leftmost signal in the highest bit (R113, R114). -/
  | wPort (signals : BitVec 2)
  /-- `tx_active tx_ready stage_is_idle start host_req_valid host_req_ready rd_empty` (R113, R114). -/
  | rPort (signals : BitVec 7)
  /-- The 4-bit `host_req_kind` (R103, R113). -/
  | hostReq (kind : BitVec 4)
  /-- A popped byte, with `fa_in`, `fa_pos` and `fa_buf[1]` (R113, R160). -/
  | asmByte (sig : AsmSignals) (b : Byte)
  /-- A completed frame in wire order, with `waiting` and the callback enables (R113, R221). -/
  | frame (sig : FrameSignals) (F : List Byte)
  /-- An outbound frame in wire order, with the command the encoder builds it for (R103, R113, R195). -/
  | txFrame (kind : TxKind) (T : List Byte)
  deriving DecidableEq, Repr

/-- Why a word is no operation of the block. -/
inductive DecodeError where
  /-- No row of R114 has this signal pattern. -/
  | noPortRow
  /-- No case of R160 has this condition; only for signals that R33 excludes. -/
  | noAssemblerCase
  /-- The byte count is not `L + 4`, or `L` is above 17 (R90, R101). -/
  | frameShape
  /-- Byte 0 is not the sync (R92). -/
  | frameSync
  /-- A byte after index 0 is the sync: such a frame is never received (R107). -/
  | syncInsideFrame
  /-- No frame row matches. -/
  | noFrameRow
  /-- The byte count is not the command's (R102). -/
  | txLength
  /-- Sync, length or message id is not the command's (R98, R191). -/
  | txHeader
  /-- PAYLOAD[0] is not `CHANNEL`, or not the zero byte of a system reset (R98, R207). -/
  | txChannel
  /-- The last byte is not the XOR of the others (R191). -/
  | txChecksum
  /-- The announce command's six data bytes are not all ones (R206). -/
  | txFill
  deriving DecidableEq, Repr

/-! ### Port rows -/

/-- A port row: the signals it reads (1 in `mask`), their values, its operation (R113, R114). -/
structure PortRow (n : Nat) where
  mask : BitVec n
  pattern : BitVec n
  op : Instr
  deriving DecidableEq, Repr

/-- The W rows "10", "11", "0f" of the opcode table. -/
def wPortRows : List (PortRow 2) := [
  ⟨0b11, 0b10, .push⟩,
  ⟨0b11, 0b11, .pushDrop⟩,
  ⟨0b10, 0b00, .wIdle⟩]

/-- The R rows of the opcode table, in the priority of R282; a letter of the table's `encoding` is a 0 of the mask. -/
def rPortRows : List (PortRow 7) := [
  ⟨0b1100000, 0b1100000, .txByte⟩,
  ⟨0b1100000, 0b1000000, .txStall⟩,
  ⟨0b1011000, 0b0011000, .start⟩,
  ⟨0b1011000, 0b0010000, .rIdleInIdle⟩,
  ⟨0b1010111, 0b0000111, .hostReq⟩,
  ⟨0b1010001, 0b0000000, .pop⟩,
  ⟨0b1010101, 0b0000001, .rIdleNoRequest⟩,
  ⟨0b1010011, 0b0000001, .rIdleNotReady⟩]

/-- The first row whose pattern the signals have. -/
def firstPortRow {n : Nat} (rows : List (PortRow n)) (signals : BitVec n) : Option Instr :=
  (rows.find? fun r => signals &&& r.mask == r.pattern).map PortRow.op

/-! ### Frame rows -/

/-- The `condition` column of the frame rows. -/
inductive FrameCondition where
  | checksumMismatch
  | lengthUnder3
  | discNot1
  | whileWaiting
  | whileNotWaiting
  | lengthFrom3
  | txcCallback
  | noTxcCallback
  | codeFrom4
  | bcastCallback
  | noBcastCallback
  | idNeither
  deriving DecidableEq, Repr

/-- Whether a condition holds of a frame under the signals. -/
def FrameCondition.holds (sig : FrameSignals) (F : List Byte) : FrameCondition → Bool
  | .checksumMismatch => !checksumOk F
  | .lengthUnder3 => (frameByte F 1).toNat < 3
  | .discNot1 => 3 ≤ (frameByte F 1).toNat && frameByte F 4 != 0x01
  | .whileWaiting => 3 ≤ (frameByte F 1).toNat && sig.waiting
  | .whileNotWaiting => 3 ≤ (frameByte F 1).toNat && !sig.waiting
  | .lengthFrom3 => 3 ≤ (frameByte F 1).toNat
  | .txcCallback => 3 ≤ (frameByte F 1).toNat && sig.txcEn
  | .noTxcCallback => 3 ≤ (frameByte F 1).toNat && !sig.txcEn
  | .codeFrom4 => 3 ≤ (frameByte F 1).toNat && 4 ≤ (frameByte F 5).toNat
  | .bcastCallback => sig.bcastEn
  | .noBcastCallback => !sig.bcastEn
  | .idNeither => frameByte F 2 != ID_EVENT && frameByte F 2 != ID_BROADCAST

/-- A frame row: match and mask over the key `K` of R113, and the condition. -/
structure FrameRow where
  pattern : BitVec 48
  mask : BitVec 48
  condition : FrameCondition
  cls : FrameClass
  deriving DecidableEq, Repr

/-- The frame rows of the opcode table in increasing priority, `match` and `mask` as the table writes them. -/
def frameRows : List FrameRow := [
  ⟨0xA40000000000, 0xFF0000000000, .checksumMismatch, .checksumError⟩,
  ⟨0xA40040000000, 0xFF00FF000000, .lengthUnder3, .eventMalformed⟩,
  ⟨0xA40040000000, 0xFF00FF000000, .discNot1, .functionResponse⟩,
  ⟨0xA40040000100, 0xFF00FF00FFFF, .whileWaiting, .eventNoErrorAck⟩,
  ⟨0xA40040000100, 0xFF00FF00FFFF, .whileNotWaiting, .eventNoErrorIgnored⟩,
  ⟨0xA40040000101, 0xFF00FF00FFFF, .lengthFrom3, .eventSearchTimeout⟩,
  ⟨0xA40040000102, 0xFF00FF00FFFF, .lengthFrom3, .eventRxFail⟩,
  ⟨0xA40040000103, 0xFF00FF00FFFF, .txcCallback, .eventTxComplete⟩,
  ⟨0xA40040000103, 0xFF00FF00FFFF, .noTxcCallback, .eventTxCompleteNoCallback⟩,
  ⟨0xA40040000100, 0xFF00FF00FF00, .codeFrom4, .eventOther⟩,
  ⟨0xA4004E000000, 0xFF00FF000000, .bcastCallback, .broadcast⟩,
  ⟨0xA4004E000000, 0xFF00FF000000, .noBcastCallback, .broadcastNoCallback⟩,
  ⟨0xA40000000000, 0xFF0000000000, .idNeither, .otherMessage⟩]

/-- The key `K` (R113): `F[0]` in bits 47:40 down to `F[5]` in bits 7:0; a missing byte is a don't-care, written 0. -/
def frameKey (F : List Byte) : BitVec 48 :=
  frameByte F 0 ++ frameByte F 1 ++ frameByte F 2 ++ frameByte F 3 ++ frameByte F 4 ++ frameByte F 5

/-- The class of the first row, in increasing priority, whose match, mask and condition hold (R113). -/
def firstFrameRow (sig : FrameSignals) (F : List Byte) : Option FrameClass :=
  (frameRows.find? fun r => frameKey F &&& r.mask == r.pattern && r.condition.holds sig F).map FrameRow.cls

/-- A completed frame: rejected by name unless the assembler could have completed it, else its row (R113, R220). -/
def decodeFrame (sig : FrameSignals) (F : List Byte) : Except DecodeError Instr :=
  if !frameShape F then .error .frameShape
  else if frameByte F 0 ≠ SYNC then .error .frameSync
  else if F.tail.contains SYNC then .error .syncInsideFrame
  else match firstFrameRow sig F with
    | some c => .ok (c.row F)
    | none => .error .noFrameRow

/-! ### Outbound rows -/

/-- The row of an outbound frame with its argument fields, given the command it was built for (R97, R98). -/
def txRow (kind : TxKind) (T : List Byte) : Except DecodeError Instr :=
  match kind with
  | .kReset => .ok .systemReset
  | .kCapreq => .ok (.capabilityRequest (frameByte T 4))
  | .kAssign => .ok (.assignChannel (frameByte T 4) (frameByte T 5))
  | .kChid => .ok (.setChannelId (half (frameByte T 4) (frameByte T 5)) (frameByte T 6) (frameByte T 7))
  | .kPeriod => .ok (.setPeriod (half (frameByte T 4) (frameByte T 5)))
  | .kFreq => .ok (.setFrequency (frameByte T 4))
  | .kStimeout => .ok (.setSearchTimeout (frameByte T 4))
  | .kOpen => .ok .openChannel
  | .kBcast => .ok (.broadcastData (half (frameByte T 4) (frameByte T 5)) (packData (frameByte T 6) (frameByte T 7) (frameByte T 8) (frameByte T 9) (frameByte T 10) (frameByte T 11)))
  | .kAckdata => .ok (.acknowledgedData (half (frameByte T 4) (frameByte T 5)) (packData (frameByte T 6) (frameByte T 7) (frameByte T 8) (frameByte T 9) (frameByte T 10) (frameByte T 11)))
  | .announce =>
    if (T.drop 6).take 6 = allOnes then .ok (.addressAnnounce (half (frameByte T 4) (frameByte T 5)))
    else .error .txFill

/-- An outbound frame: byte count (R102), sync, length and id (R98), channel byte (R207), checksum (R191), then the
argument fields. -/
def decodeTx (p : Params) (kind : TxKind) (T : List Byte) : Except DecodeError Instr :=
  if T.length ≠ kind.len + 4 then .error .txLength
  else if T.take 3 ≠ [SYNC, BitVec.ofNat 8 kind.len, kind.id p] then .error .txHeader
  else if frameByte T 3 ≠ CHANNEL then .error .txChannel
  else if !checksumOk T then .error .txChecksum
  else txRow kind T

/-! ### The decoder -/

/-- Total on every word; rejects by name. -/
def decode (p : Params) : TableWord → Except DecodeError Instr
  | .wPort signals =>
    match firstPortRow wPortRows signals with
    | some i => .ok i
    | none => .error .noPortRow
  | .rPort signals =>
    match firstPortRow rPortRows signals with
    | some i => .ok i
    | none => .error .noPortRow
  | .hostReq kind => .ok (hostRow kind)
  | .asmByte sig b =>
    match asmCase sig b with
    | some c => .ok (c.row b)
    | none => .error .noAssemblerCase
  | .frame sig F => decodeFrame sig F
  | .txFrame kind T => decodeTx p kind T

/-! ### The encoder -/

/-- The word of an operation. Where the row leaves a signal open (a letter of the table's `encoding`, a condition that
several signal values meet), the word with that signal 0, or the smallest values that meet the condition. -/
def encode (p : Params) : Instr → TableWord
  | .checksumError F => .frame FrameClass.checksumError.signals F
  | .eventMalformed F => .frame FrameClass.eventMalformed.signals F
  | .functionResponse F => .frame FrameClass.functionResponse.signals F
  | .eventNoErrorAck F => .frame FrameClass.eventNoErrorAck.signals F
  | .eventNoErrorIgnored F => .frame FrameClass.eventNoErrorIgnored.signals F
  | .eventSearchTimeout F => .frame FrameClass.eventSearchTimeout.signals F
  | .eventRxFail F => .frame FrameClass.eventRxFail.signals F
  | .eventTxComplete F => .frame FrameClass.eventTxComplete.signals F
  | .eventTxCompleteNoCallback F => .frame FrameClass.eventTxCompleteNoCallback.signals F
  | .eventOther F => .frame FrameClass.eventOther.signals F
  | .broadcast F => .frame FrameClass.broadcast.signals F
  | .broadcastNoCallback F => .frame FrameClass.broadcastNoCallback.signals F
  | .otherMessage F => .frame FrameClass.otherMessage.signals F
  | .systemReset => .txFrame .kReset (build 0x4A [0x00])
  | .capabilityRequest target => .txFrame .kCapreq (build p.msgCapReq [CHANNEL, target])
  | .assignChannel ty net => .txFrame .kAssign (build 0x42 [CHANNEL, ty, net])
  | .setChannelId dev dty tty => .txFrame .kChid (build 0x51 [CHANNEL, loByte dev, hiByte dev, dty, tty])
  | .setPeriod v => .txFrame .kPeriod (build 0x43 [CHANNEL, loByte v, hiByte v])
  | .setFrequency f => .txFrame .kFreq (build 0x45 [CHANNEL, f])
  | .setSearchTimeout t => .txFrame .kStimeout (build 0x44 [CHANNEL, t])
  | .openChannel => .txFrame .kOpen (build 0x4B [CHANNEL])
  | .broadcastData a d => .txFrame .kBcast (build 0x4E ([CHANNEL, loByte a, hiByte a] ++ dataBytes d))
  | .acknowledgedData a d => .txFrame .kAckdata (build 0x4F ([CHANNEL, loByte a, hiByte a] ++ dataBytes d))
  | .addressAnnounce a => .txFrame .announce (build p.announceId.byte ([CHANNEL, loByte a, hiByte a] ++ allOnes))
  | .hostKReset => .hostReq 0x0
  | .hostKCapreq => .hostReq 0x1
  | .hostKAssign => .hostReq 0x2
  | .hostKChid => .hostReq 0x3
  | .hostKPeriod => .hostReq 0x4
  | .hostKFreq => .hostReq 0x5
  | .hostKStimeout => .hostReq 0x6
  | .hostKOpen => .hostReq 0x7
  | .hostKBcast => .hostReq 0x8
  | .hostKAckdata => .hostReq 0x9
  | .hostReservedAB low => .hostReq (reservedABKind low)
  | .hostReservedCF low => .hostReq (reservedCFKind low)
  | .huntDiscard b => .asmByte ⟨false, 0, 0⟩ b
  | .huntSync => .asmByte ⟨false, 0, 0⟩ SYNC
  | .resync => .asmByte ⟨true, 1, 0⟩ SYNC
  | .length b => .asmByte ⟨true, 1, 0⟩ b
  | .lengthInvalid b => .asmByte ⟨true, 1, 0⟩ b
  | .messageId b => .asmByte ⟨true, 2, 0⟩ b
  | .payloadByte b => .asmByte ⟨true, 3, 1⟩ b
  | .checksumByte b => .asmByte ⟨true, 3, 0⟩ b
  | .push => .wPort 0b10
  | .pushDrop => .wPort 0b11
  | .wIdle => .wPort 0b00
  | .txByte => .rPort 0b1100000
  | .txStall => .rPort 0b1000000
  | .start => .rPort 0b0011000
  | .hostReq => .rPort 0b0000111
  | .pop => .rPort 0b0000000
  | .rIdleInIdle => .rPort 0b0010000
  | .rIdleNoRequest => .rPort 0b0000001
  | .rIdleNotReady => .rPort 0b0000101

/-! ### Words of the opcode table as numbers -/

/-- The six bytes of the 48-bit key `K` (R113): `F[0]` in bits 47:40. -/
def keyBytes (w : Nat) : List Byte :=
  [BitVec.ofNat 8 (w >>> 40), BitVec.ofNat 8 (w >>> 32), BitVec.ofNat 8 (w >>> 24), BitVec.ofNat 8 (w >>> 16), BitVec.ofNat 8 (w >>> 8), BitVec.ofNat 8 w]

/-- The shortest valid frame with this key: its first `L + 3` bytes, bytes past the key being 0, and its checksum. A key
byte past the payload is a don't-care (R113). -/
def frameOfKey (w : Nat) : List Byte :=
  let body := (keyBytes w ++ List.replicate 14 0).take (((keyBytes w).getD 1 0).toNat + 3)
  body ++ [xorAll body]

/-- The first outbound row the key's frame is a frame of, for the default parameters. ADDRESS_ANNOUNCE has the match of
BROADCAST_DATA, which stands first. -/
def firstTxRow (T : List Byte) : Option Instr :=
  [TxKind.kReset, .kCapreq, .kAssign, .kChid, .kPeriod, .kFreq, .kStimeout, .kOpen, .kBcast, .kAckdata].findSome?
    fun k => (decodeTx Params.default k T).toOption

/-- The operation of a table row's bits. The table's formats share their numbers, so the bit count and the value pick the
format: 48-bit keys are an outbound frame where one matches and an inbound frame else, with no condition signal set; of the
shorter words, two and seven bits are the port patterns, a value below 16 is a host kind, and any other byte is a popped
byte while hunting (log 10). -/
def decodeTableWord (nbits w : Nat) : Option Instr :=
  if 8 < nbits then
    match firstTxRow (frameOfKey w) with
    | some i => some i
    | none => (decode Params.default (.frame ⟨false, false, false⟩ (frameOfKey w))).toOption
  else if nbits = 2 then (decode Params.default (.wPort (BitVec.ofNat 2 w))).toOption
  else if nbits = 7 then (decode Params.default (.rPort (BitVec.ofNat 7 w))).toOption
  else if w < 16 then (decode Params.default (.hostReq (BitVec.ofNat 4 w))).toOption
  else (decode Params.default (.asmByte ⟨false, 0, 0⟩ (BitVec.ofNat 8 w))).toOption

end Sys2Proof
end

