-- ==== Sys2Proof/Machine/State.lean ====
section
/-! DEFINITION. The state of the block as plain data (10_state.md, 20_memory.md R70, 70_reset_and_hazards.md R331), the reasons
a step can stop, and the state after reset (R45). -/
namespace Sys2Proof.Machine

open Sys2Proof

/-- `cfg_role`: 0 master, 1 slave/listener (R22, R35). -/
inductive Role where
  | master
  | slave
  deriving DecidableEq, Repr

/-- The Channel Configuration: the six `cfg_*` fields (R22, R35). -/
structure ChannelConfig where
  role : Role
  devAddr : Half
  period : Half
  freq : Byte
  bcastEn : Bool
  txcEn : Bool
  deriving DecidableEq, Repr

/-- The Configuration Stage (R36, R109). -/
inductive Stage where
  | idle
  | assignChannel
  | setChannelId
  | setPeriod
  | setFrequency
  | openChannel
  | addressAnnounce
  | configured
  deriving DecidableEq, Repr

/-- The kinds of a diagnostic report (R110). -/
inductive DiagKind where
  | none
  | checksumError
  | unknownEvent
  | functionResponse
  | unknownMessage
  | searchTimeout
  | malformedEvent
  | badHostRequest
  deriving DecidableEq, Repr

/-- The ports the Host drives (R22). -/
structure HostPorts where
  start : Bool
  cfg : ChannelConfig
  reqValid : Bool
  reqKind : BitVec 4
  reqArg : Byte
  reqAddr : Half
  reqData : Data6
  deriving DecidableEq, Repr

/-- The input ports but the two clocks, as the external agents hold them between edges (R17, R20 to R22). -/
structure Ports where
  rstN : Bool
  wrEn : Bool
  wrData : Byte
  txReady : Bool
  host : HostPorts
  deriving DecidableEq, Repr

/-- A pointer synchroniser of S flip-flops (R28, R31): `stages` are `q[1] .. q[S-1]`, `last` is `q[S]`. -/
structure Sync where
  stages : List Ptr
  last : Ptr
  deriving DecidableEq, Repr

/-- The two-flip-flop reset synchroniser of a domain (R331). The domain is out of reset when `ff2 = 1`. -/
structure ResetSync where
  ff1 : Bool
  ff2 : Bool
  deriving DecidableEq, Repr

/-- What a contested sample captures (R13): the gray pointer's current value or the one before its latest update.
A FREE VALUE (U6, log 2): every clock edge carries one and nothing constrains it. -/
inductive Draw where
  | current
  | previous
  deriving DecidableEq, Repr

/-- What the spec tells a model to refuse (R143, R333; U1, U7, U8, U9). -/
inductive Violation where
  /-- A pop from the write side: "popping from interrupt context" (R143, U1). -/
  | popFromWriteDomain
  /-- A push from the read side (R143, U1). -/
  | pushFromReadDomain
  /-- A second producer or consumer (U1). -/
  | secondAgent
  /-- Resetting one domain alone (R333, U9). -/
  | partialReset
  /-- Metastability that outlasts the S stages (R348, U7). -/
  | lateMetastability
  /-- An input that violates set-up or hold, or changes in the wrong clock domain (R347, U8). -/
  | unsynchronisedInput
  deriving DecidableEq, Repr

/-- One event outside or between the two domains: which agent of R7 acts next and what it does (log 1). -/
inductive Stimulus where
  /-- A rising edge of `wclk` (R7). -/
  | wclk (d : Draw)
  /-- A rising edge of `rclk` (R7). -/
  | rclk (d : Draw)
  /-- The Producer drives `wr_en` and `wr_data` (R289). -/
  | producer (wrEn : Bool) (wrData : Byte)
  /-- The Transport drives `tx_ready` (R289). -/
  | transport (txReady : Bool)
  /-- The Host drives its ports (R289). -/
  | host (h : HostPorts)
  /-- Reset drives `rst_n` (R330, R331). -/
  | reset (rstN : Bool)
  /-- A stimulus outside the domain of the model (log 14). -/
  | outside (v : Violation)
  deriving DecidableEq, Repr

/-- Where the step stops with a fault. Each is SAFE: the model stops in states that no run of the block reaches (the
invariants of R26, R29, R33, R38 exclude them), and the spec gives those states no behaviour. -/
inductive Fault where
  /-- PUSH or POP at a storage index outside `0 .. DEPTH-1` (R10, log 12). Safe. -/
  | outsideStorage
  /-- A popped byte for which R160 has no case, because `fa_in` and `fa_pos` violate R33 (log 12). Safe. -/
  | noAssemblerCase
  /-- TX_BYTE with `tx_idx` outside `0 .. 12`: no such register (R38, log 12). Safe. -/
  | noTxBufElement
  deriving DecidableEq, Repr

/-- Where the step gives no meaning. -/
inductive Refusal where
  /-- Raised by an arm of `exec` whose instruction has no meaning yet; no arm does. Safe. -/
  | notModelled (mnemonic : String)
  /-- Raised by an operation offered where the block selects another one, or none: the row's own condition does not hold
  (R114, R160, R220, R285; R143: "must refuse it, not give it a meaning"; log 9). Safe. -/
  | notSelected
  /-- Raised by a stimulus the spec says a model must refuse (R143, R333; U1, U7, U8, U9; log 14). Safe. -/
  | outsideDomain (v : Violation)
  deriving DecidableEq, Repr

/-- Everything the spec gives the machine, the parameters it is built with, and what the agents outside it do next. -/
structure State where
  /-- The parameters (R5), fixed for a machine. -/
  par : Params
  /-- The input ports (R20 to R22). -/
  ports : Ports
  /-- The W domain's reset synchroniser (R331). -/
  wRst : ResetSync
  /-- The R domain's reset synchroniser (R331). -/
  rRst : ResetSync
  /-- `wbin` (R26). -/
  wbin : Ptr
  /-- `wgray` (R27). -/
  wgray : Ptr
  /-- `rq[1..S]` (R28). -/
  rq : Sync
  /-- `mem` (R70), addresses strictly rising; an entry that is not listed holds `unwrittenByte` (log 5). -/
  mem : List Host.Cell
  /-- `rbin` (R29). -/
  rbin : Ptr
  /-- `rgray` (R30). -/
  rgray : Ptr
  /-- `wq[1..S]` (R31). -/
  wq : Sync
  /-- `fa_in` (R32). -/
  faIn : Bool
  /-- `fa_pos` (R33). -/
  faPos : BitVec 5
  /-- `fa_buf[0..20]` (R34). -/
  faBuf : Vector Byte 21
  /-- `cfg_*_q`, the Channel Configuration latch (R35). -/
  cfgQ : ChannelConfig
  /-- `stage` (R36). -/
  stage : Stage
  /-- `tx_active` (R37). -/
  txActive : Bool
  /-- `tx_buf[0..12]` (R38). -/
  txBuf : Vector Byte 13
  /-- `tx_len` (R38). -/
  txLen : BitVec 4
  /-- `tx_idx` (R38). -/
  txIdx : BitVec 4
  /-- `bcast_evt` (R39). -/
  bcastEvt : Bool
  /-- `txc_evt` (R39). -/
  txcEvt : Bool
  /-- `diag_valid` (R39). -/
  diagValid : Bool
  /-- `diag_kind` (R39). -/
  diagKind : DiagKind
  /-- `out_frame[0..20]` (R39). -/
  outFrame : Vector Byte 21
  /-- `out_len` (R39). -/
  outLen : BitVec 5
  /-- The model's: the value `wgray` held before its latest update, R13's `g_prev` (log 3). -/
  wgPrev : Ptr
  /-- The model's: whether `wgray` has changed since the last rising edge of `rclk` (R13, log 3). -/
  wgChanged : Bool
  /-- The model's: the value `rgray` held before its latest update (R13, log 3). -/
  rgPrev : Ptr
  /-- The model's: whether `rgray` has changed since the last rising edge of `wclk` (R13, log 3). -/
  rgChanged : Bool
  /-- The model's: what the agents outside the block and the two clocks do next, in order (R7, log 1). -/
  stimulus : List Stimulus
  deriving DecidableEq, Repr

/-- The Channel Configuration of all zeros (R45; DESIGN CHOICE for the ports, log 7). -/
def ChannelConfig.zero : ChannelConfig := ⟨.master, 0, 0, 0, false, false⟩

/-- The Host's ports before it drives them: all 0 (DESIGN CHOICE, log 7). -/
def HostPorts.zero : HostPorts := ⟨false, .zero, false, 0, 0, 0, 0⟩

/-- The input ports before an agent drives them: `rst_n = 1` and the defaults of R111 (DESIGN CHOICE, log 7). -/
def Ports.initial : Ports where
  rstN := true
  wrEn := false
  wrData := 0
  txReady := true
  host := .zero

/-- A pointer synchroniser at reset: S registers of 0 (R45). -/
def Sync.zero (p : Params) : Sync := ⟨List.replicate (p.syncStages - 1) 0, 0⟩

/-- The reset value of every register (R45), for any parameters. The registers R45 leaves unspecified are 0
(DESIGN CHOICE, log 5 for `mem`, which lists nothing, log 6 for `fa_buf` and `tx_buf`). Both domains are out of reset (R331, log 8). -/
def State.resetOf (p : Params) : State where
  par := p
  ports := .initial
  wRst := ⟨true, true⟩
  rRst := ⟨true, true⟩
  wbin := 0
  wgray := 0
  rq := .zero p
  mem := []
  rbin := 0
  rgray := 0
  wq := .zero p
  faIn := false
  faPos := 0
  faBuf := Vector.replicate 21 0
  cfgQ := .zero
  stage := .idle
  txActive := false
  txBuf := Vector.replicate 13 0
  txLen := 0
  txIdx := 0
  bcastEvt := false
  txcEvt := false
  diagValid := false
  diagKind := .none
  outFrame := Vector.replicate 21 0
  outLen := 0
  wgPrev := 0
  wgChanged := false
  rgPrev := 0
  rgChanged := false
  stimulus := []

/-- The machine right after reset (R45), with the default parameters (R5). -/
def State.reset : State := State.resetOf Params.default

end Sys2Proof.Machine
end

