-- ==== Sys2Proof/Machine/Ops.lean ====
section
/-! DEFINITION. The named operations over the state: the FIFO storage (R10, R70, R71), the synchronisers (R13, R136, R137),
the two edges' own updates (R280, R288), the output latch and the report (R12, R235, R284), the encoder primitive (R195),
reset (R330 to R332). The block has no trap (R300, R305): its abnormal conditions go through `report` and `latch`, and
its one recovery action is the restart of R258. -/
namespace Sys2Proof.Machine

open Sys2Proof

/-! ### FIFO storage -/

/-- What an entry holds that is not listed: the reset contents of `mem`, which R45 leaves unspecified ("any byte").
DESIGN CHOICE 0x00, unsafe (log 5). -/
def unwrittenByte : Byte := 0x00

/-- `MemRead(a, 1)` (R10): the byte `mem[a]`. -/
def memRead (m : List Host.Cell) (a : Nat) : Byte := ((m.find? fun c => c.1 == a).map Prod.snd).getD unwrittenByte

/-- The list without the entry at `a`, which then holds `unwrittenByte`. -/
def memErase (m : List Host.Cell) (a : Nat) : List Host.Cell := m.filter fun c => c.1 != a

/-- The list with an entry for `a`, put where the addresses rise; used where `a` is not listed. -/
def memInsert (m : List Host.Cell) (a : Nat) (v : Byte) : List Host.Cell :=
  match m with
  | [] => [(a, v)]
  | c :: cs => if a < c.1 then (a, v) :: c :: cs else c :: memInsert cs a v

/-- `MemWrite(a, 1, v)` (R10): `mem[a] <- v`, listing no entry that holds `unwrittenByte`. -/
def memWrite (m : List Host.Cell) (a : Nat) (v : Byte) : List Host.Cell :=
  if v = unwrittenByte then memErase m a else memInsert (memErase m a) a v

/-- The canonical form: addresses strictly rising, all below DEPTH, and no entry that holds what an unlisted one holds. -/
def memWf (p : Params) (m : List Host.Cell) : Bool :=
  (m.map Prod.fst).Pairwise (· < ·) && m.all fun c => c.1 < p.depth && c.2 != unwrittenByte

/-- The byte a POP reads (R135); an index outside `0 .. DEPTH-1` names no entry (R10, log 12). -/
def fifoRead (s : State) : Except Fault Byte :=
  if s.rbin.toNat < s.par.depth then .ok (memRead s.mem s.rbin.toNat) else .error .outsideStorage

/-! ### Synchronisers -/

/-- The shift of R136 and R137: `q[1] <- g`, `q[k] <- q[k-1]`. -/
def Sync.shift (q : Sync) (g : Ptr) : Sync :=
  { stages := (g :: q.stages).dropLast, last := q.stages.getLastD g }

/-- `q[1], ..., q[S]` in order (R28, R31). -/
def Sync.toList (q : Sync) : List Ptr := q.stages ++ [q.last]

/-- `sample(g)` (R13): `g` if it has not changed since the sampler's last edge, else the draw. -/
def sample (changed : Bool) (d : Draw) (g gPrev : Ptr) : Ptr :=
  match changed, d with
  | true, .previous => gPrev
  | _, _ => g

/-- What every W edge does (R136, R288): `rq` shifts in a sample of `rgray`. The edge's event is consumed. -/
def finishW (s : State) : State :=
  match s.stimulus with
  | .wclk d :: rest =>
    { s with rq := s.rq.shift (sample s.rgChanged d s.rgray s.rgPrev), rgChanged := false, stimulus := rest }
  | _ => s

/-- What every R edge does (R137, R280): `wq` shifts in a sample of `wgray`. The edge's event is consumed. -/
def finishR (s : State) : State :=
  match s.stimulus with
  | .rclk d :: rest =>
    { s with wq := s.wq.shift (sample s.wgChanged d s.wgray s.wgPrev), wgChanged := false, stimulus := rest }
  | _ => s

/-- What every R step does first (R281): each event pulse is cleared. -/
def clearPulses (s : State) : State := { s with bcastEvt := false, txcEvt := false, diagValid := false }

/-! ### FIFO pointers -/

/-- The writes of PUSH (R131): the entry, then the pointer that publishes it. -/
def pushByte (b : Byte) (s : State) : State :=
  { s with
    mem := memWrite s.mem s.wbin.toNat b
    wbin := s.par.inc s.wbin
    wgray := gray (s.par.inc s.wbin)
    wgPrev := s.wgray
    wgChanged := true }

/-- The pointer writes of POP (R135). -/
def advanceRead (s : State) : State :=
  { s with
    rbin := s.par.inc s.rbin
    rgray := gray (s.par.inc s.rbin)
    rgPrev := s.rgray
    rgChanged := true }

/-! ### Reports -/

/-- `latch(F, n)` (R235): `out_frame` is F zero-filled, `out_len` its byte count. -/
def latch (F : List Byte) (s : State) : State :=
  { s with outFrame := s.outFrame.mapIdx fun i _ => frameByte F i, outLen := BitVec.ofNat 5 F.length }

/-- `report Diag(k)` (R12, R284). -/
def report (k : DiagKind) (s : State) : State := { s with diagValid := true, diagKind := k }

/-- `latch(F, n); report Diag(k)`: what every abnormal frame does (R222, R223, R226, R230, R233, R234). -/
def latchReport (k : DiagKind) (F : List Byte) (s : State) : State := report k (latch F s)

/-- `emit Bcast` (R12, R283). -/
def emitBcast (s : State) : State := { s with bcastEvt := true }

/-- `emit TxDone` (R12, R283). -/
def emitTxDone (s : State) : State := { s with txcEvt := true }

/-! ### Encoder -/

/-- `tx_buf[i] <- T[i]` for the frame's bytes; the later elements keep their values (R195). -/
def fillTxBuf (T : List Byte) (buf : Vector Byte 13) : Vector Byte 13 :=
  buf.mapIdx fun i b => if i < T.length then frameByte T i else b

/-- `load_tx` (R195) of the frame `build(id, P)` (R191). -/
def loadTx (id : Byte) (P : List Byte) (s : State) : State :=
  { s with
    txBuf := fillTxBuf (build id P) s.txBuf
    txLen := BitVec.ofNat 4 (P.length + 4)
    txIdx := 0
    txActive := true }

/-! ### Reset -/

/-- Assertion of `rst_n` (R330, R332): every register of both domains takes its reset value at once. The ports are held by
the agents outside; both reset synchronisers are cleared (R331). -/
def assertReset (s : State) : State :=
  { State.resetOf s.par with
    ports := { s.ports with rstN := false }
    wRst := ⟨false, false⟩
    rRst := ⟨false, false⟩
    stimulus := s.stimulus }

/-- Release of `rst_n` (R331): the synchronisers still hold the domains in reset. -/
def releaseReset (s : State) : State := { s with ports := { s.ports with rstN := true } }

/-- One clock edge of a domain's reset synchroniser (R331): held at 0 while `rst_n = 0`, else shifting in a 1. -/
def ResetSync.clock (rstN : Bool) (r : ResetSync) : ResetSync := if rstN then ⟨true, r.ff1⟩ else ⟨false, false⟩

/-- A `wclk` edge while the W domain is in reset: no W step (R330, R331), only the reset synchroniser. -/
def wEdgeInReset (s : State) : State :=
  { s with wRst := s.wRst.clock s.ports.rstN, rgChanged := false, stimulus := s.stimulus.tail }

/-- An `rclk` edge while the R domain is in reset: no R step (R330, R331), only the reset synchroniser. -/
def rEdgeInReset (s : State) : State :=
  { s with rRst := s.rRst.clock s.ports.rstN, wgChanged := false, stimulus := s.stimulus.tail }

/-! ### Outcomes -/

/-- The result of an operation whose selecting condition is `sel`: a row offered where it is not selected is refused
(R143; log 9). -/
def whenSelected (sel : Bool) (o : Host.Outcome State Fault Refusal) : Host.Outcome State Fault Refusal :=
  if sel then o else .refused .notSelected

end Sys2Proof.Machine
end

