-- ==== Sys2Proof/Machine/Flags.lean ====
section
/-! DEFINITION. The derived signals and flags (10_state.md R40 to R44, R46), the output ports (R23), and which row of the
opcode table an edge, a popped byte, a completed frame or a host request takes (R113, R114, R160, R221, R282). Every one is
combinational: it reads the state before the edge. -/
namespace Sys2Proof.Machine

open Sys2Proof

/-! ### Flags -/

/-- `rd_empty = (rgray == wq[S])` (R40, R133). -/
def rdEmpty (s : State) : Bool := s.rgray == s.wq.last

/-- `wr_full = (bin(rq[S]) == wbin + 1 mod 2^AW)` (R41, R134). -/
def wrFull (s : State) : Bool := bin s.rq.last == s.par.inc s.wbin

/-- `host_req_ready` (R43). -/
def hostReqReady (s : State) : Bool := s.stage == .configured && !s.txActive && rdEmpty s && !s.faIn

/-- `1 <= stage <= 6` (R36, R109). -/
def Stage.isCommand : Stage → Bool
  | .idle => false
  | .assignChannel => true
  | .setChannelId => true
  | .setPeriod => true
  | .setFrequency => true
  | .openChannel => true
  | .addressAnnounce => true
  | .configured => false

/-- `waiting` (R44). -/
def waiting (s : State) : Bool := s.stage.isCommand && !s.txActive

/-- The document's `count`: `occ = (wbin - rbin) mod 2^AW` (R46). -/
def occ (s : State) : Ptr := s.par.dist s.rbin s.wbin

/-- The W domain's bound on it, `occ_w` (R46). -/
def occW (s : State) : Ptr := s.par.dist (bin s.rq.last) s.wbin

/-- The R domain's bound on it, `occ_r` (R46). -/
def occR (s : State) : Ptr := s.par.dist s.rbin (bin s.wq.last)

/-! ### Output ports -/

/-- The code of a stage (R109). -/
def Stage.code : Stage → BitVec 3
  | .idle => 0
  | .assignChannel => 1
  | .setChannelId => 2
  | .setPeriod => 3
  | .setFrequency => 4
  | .openChannel => 5
  | .addressAnnounce => 6
  | .configured => 7

/-- The code of a diagnostic kind (R110). -/
def DiagKind.code : DiagKind → BitVec 3
  | .none => 0
  | .checksumError => 1
  | .unknownEvent => 2
  | .functionResponse => 3
  | .unknownMessage => 4
  | .searchTimeout => 5
  | .malformedEvent => 6
  | .badHostRequest => 7

/-- `tx_data` (R42): `tx_buf[tx_idx]` while active, 0x00 else. None only where `tx_idx` names no register (log 12). -/
def txData (s : State) : Option Byte := if s.txActive then s.txBuf[s.txIdx.toNat]? else some 0x00

/-- `out_frame` as one port: byte i at bits `8i+7:8i` (R23, R73). -/
def outFramePort (s : State) : BitVec 168 :=
  s.outFrame.toList.foldr (fun b acc => (acc <<< 8) ||| b.zeroExtend 168) 0

/-- The output ports (R23). -/
structure Outputs where
  hostReqReady : Bool
  txValid : Bool
  txData : Option Byte
  bcastEvt : Bool
  txcEvt : Bool
  diagValid : Bool
  diagKind : BitVec 3
  outFrame : BitVec 168
  outLen : BitVec 5
  stage : BitVec 3
  deriving DecidableEq, Repr

/-- What the block drives on its outputs (R23, R42). -/
def outputs (s : State) : Outputs where
  hostReqReady := hostReqReady s
  txValid := s.txActive
  txData := txData s
  bcastEvt := s.bcastEvt
  txcEvt := s.txcEvt
  diagValid := s.diagValid
  diagKind := s.diagKind.code
  outFrame := outFramePort s
  outLen := s.outLen
  stage := s.stage.code

/-! ### Edges -/

/-- The W domain takes a step at the next event: a `wclk` edge, out of reset (R288, R330, R331). -/
def wStep (s : State) : Bool :=
  match s.stimulus with
  | .wclk _ :: _ => s.ports.rstN && s.wRst.ff2
  | _ => false

/-- The R domain takes a step at the next event: an `rclk` edge, out of reset (R280, R330, R331). -/
def rStep (s : State) : Bool :=
  match s.stimulus with
  | .rclk _ :: _ => s.ports.rstN && s.rRst.ff2
  | _ => false

/-- The signals `wr_en wr_full` (R113, R114). -/
def wSignals (s : State) : BitVec 2 := BitVec.ofBool s.ports.wrEn ++ BitVec.ofBool (wrFull s)

/-- The signals `tx_active tx_ready stage_is_idle start host_req_valid host_req_ready rd_empty` (R113, R114). -/
def rSignals (s : State) : BitVec 7 :=
  BitVec.ofBool s.txActive ++ BitVec.ofBool s.ports.txReady ++ BitVec.ofBool (s.stage == .idle) ++
    BitVec.ofBool s.ports.host.start ++ BitVec.ofBool s.ports.host.reqValid ++ BitVec.ofBool (hostReqReady s) ++
    BitVec.ofBool (rdEmpty s)

/-- The condition signals of the assembler rows (R113). -/
def asmSignals (s : State) : AsmSignals := ⟨s.faIn, s.faPos, s.faBuf[1]⟩

/-- The condition signals of the frame rows (R113). -/
def frameSignals (s : State) : FrameSignals := ⟨waiting s, s.cfgQ.bcastEn, s.cfgQ.txcEn⟩

/-! ### Selection -/

/-- A W port row is the operation of the next event (R114). -/
def wSelects (s : State) (i : Instr) : Bool :=
  wStep s && (decode s.par (.wPort (wSignals s))).toOption == some i

/-- An R port row is the operation of the next event (R114, R282). -/
def rSelects (s : State) (i : Instr) : Bool :=
  rStep s && (decode s.par (.rPort (rSignals s))).toOption == some i

/-- "Pops happen only when `stage != Idle` and `tx_active = 0`" (R173, R282). -/
def popAllowed (s : State) : Bool := s.stage != .idle && !s.txActive

/-- The case `c` is the one a popped byte `b` takes (R160). -/
def asmSelects (s : State) (c : AsmCase) (b : Byte) : Bool :=
  popAllowed s && asmCase (asmSignals s) b == some c

/-- The frame row `c` is the one a completed frame `F` takes (R170, R171, R221). -/
def frameSelects (s : State) (c : FrameClass) (F : List Byte) : Bool :=
  popAllowed s && frameShape F && frameClass (frameSignals s) F == c

/-- A host row is the one of the request accepted now (R285, R287). -/
def hostSelects (s : State) (i : Instr) : Bool :=
  hostReqReady s && s.ports.host.reqValid && hostRow s.ports.host.reqKind == i

/-- `load_tx` is used only when `tx_active = 0` (R194, R195). -/
def encoderFree (s : State) : Bool := !s.txActive

end Sys2Proof.Machine
end

