-- ==== Sys2Proof/Machine/Encoder.lean ====
section
/-! DEFINITION. The message encoder and the transmitter (42_encoder.md R190 to R208): the eleven outbound rows, TX_BYTE,
TX_STALL. An outbound row is `load_tx(kind, args)` (R195): its operands are the argument fields of R98's payload layout;
where each argument comes from is said by the callers (host rows R103, R104; the configurator R252 to R258). -/
namespace Sys2Proof.Machine

open Sys2Proof

/-! ### What each command loads (R196 to R206) -/

/-- R196: "1 zero byte". -/
def loadSystemReset (s : State) : State := loadTx (TxKind.id s.par .kReset) [0x00] s

/-- R197. -/
def loadCapabilityRequest (target : Byte) (s : State) : State := loadTx (TxKind.id s.par .kCapreq) [CHANNEL, target] s

/-- R198. -/
def loadAssignChannel (channelType networkNumber : Byte) (s : State) : State :=
  loadTx (TxKind.id s.par .kAssign) [CHANNEL, channelType, networkNumber] s

/-- R199. -/
def loadSetChannelId (deviceId : Half) (deviceType transType : Byte) (s : State) : State :=
  loadTx (TxKind.id s.par .kChid) [CHANNEL, loByte deviceId, hiByte deviceId, deviceType, transType] s

/-- R200. -/
def loadSetPeriod (period : Half) (s : State) : State :=
  loadTx (TxKind.id s.par .kPeriod) [CHANNEL, loByte period, hiByte period] s

/-- R201. -/
def loadSetFrequency (freq : Byte) (s : State) : State := loadTx (TxKind.id s.par .kFreq) [CHANNEL, freq] s

/-- R202. -/
def loadSetSearchTimeout (timeout : Byte) (s : State) : State := loadTx (TxKind.id s.par .kStimeout) [CHANNEL, timeout] s

/-- R203. -/
def loadOpenChannel (s : State) : State := loadTx (TxKind.id s.par .kOpen) [CHANNEL] s

/-- R204. -/
def loadBroadcastData (addr : Half) (data : Data6) (s : State) : State :=
  loadTx (TxKind.id s.par .kBcast) (dataPayload addr (dataBytes data)) s

/-- R205. -/
def loadAcknowledgedData (addr : Half) (data : Data6) (s : State) : State :=
  loadTx (TxKind.id s.par .kAckdata) (dataPayload addr (dataBytes data)) s

/-- R206. -/
def loadAddressAnnounce (addr : Half) (s : State) : State :=
  loadTx (TxKind.id s.par .announce) (dataPayload addr allOnes) s

/-! ### The outbound rows -/

/-- SYSTEM_RESET (R196). -/
def execSystemReset (s : State) : Host.Outcome State Fault Refusal :=
  whenSelected (encoderFree s) (.next (loadSystemReset s))

/-- CAPABILITY_REQUEST (R197). -/
def execCapabilityRequest (target : Byte) (s : State) : Host.Outcome State Fault Refusal :=
  whenSelected (encoderFree s) (.next (loadCapabilityRequest target s))

/-- ASSIGN_CHANNEL (R198). -/
def execAssignChannel (channelType networkNumber : Byte) (s : State) : Host.Outcome State Fault Refusal :=
  whenSelected (encoderFree s) (.next (loadAssignChannel channelType networkNumber s))

/-- SET_CHANNEL_ID (R199). -/
def execSetChannelId (deviceId : Half) (deviceType transType : Byte) (s : State) : Host.Outcome State Fault Refusal :=
  whenSelected (encoderFree s) (.next (loadSetChannelId deviceId deviceType transType s))

/-- SET_PERIOD (R200). -/
def execSetPeriod (period : Half) (s : State) : Host.Outcome State Fault Refusal :=
  whenSelected (encoderFree s) (.next (loadSetPeriod period s))

/-- SET_FREQUENCY (R201). -/
def execSetFrequency (freq : Byte) (s : State) : Host.Outcome State Fault Refusal :=
  whenSelected (encoderFree s) (.next (loadSetFrequency freq s))

/-- SET_SEARCH_TIMEOUT (R202). -/
def execSetSearchTimeout (timeout : Byte) (s : State) : Host.Outcome State Fault Refusal :=
  whenSelected (encoderFree s) (.next (loadSetSearchTimeout timeout s))

/-- OPEN_CHANNEL (R203). -/
def execOpenChannel (s : State) : Host.Outcome State Fault Refusal :=
  whenSelected (encoderFree s) (.next (loadOpenChannel s))

/-- BROADCAST_DATA (R204). -/
def execBroadcastData (addr : Half) (data : Data6) (s : State) : Host.Outcome State Fault Refusal :=
  whenSelected (encoderFree s) (.next (loadBroadcastData addr data s))

/-- ACKNOWLEDGED_DATA (R205). -/
def execAcknowledgedData (addr : Half) (data : Data6) (s : State) : Host.Outcome State Fault Refusal :=
  whenSelected (encoderFree s) (.next (loadAcknowledgedData addr data s))

/-- ADDRESS_ANNOUNCE (R206). -/
def execAddressAnnounce (addr : Half) (s : State) : Host.Outcome State Fault Refusal :=
  whenSelected (encoderFree s) (.next (loadAddressAnnounce addr s))

/-! ### The transmitter -/

/-- The pseudocode of R192: the next byte, or the end of the frame. -/
def advanceTx (s : State) : State :=
  if s.txIdx + 1 = s.txLen then { s with txActive := false, txIdx := 0 } else { s with txIdx := s.txIdx + 1 }

/-- TX_BYTE (R192): the Transport takes `tx_data = tx_buf[tx_idx]` at this edge. -/
def execTxByte (s : State) : Host.Outcome State Fault Refusal :=
  whenSelected (rSelects s .txByte)
    (if s.txIdx.toNat < TXB_SIZE then .next (finishR (advanceTx (clearPulses s))) else .fault .noTxBufElement)

/-- TX_STALL (R193): `tx_idx` is unchanged. -/
def execTxStall (s : State) : Host.Outcome State Fault Refusal :=
  whenSelected (rSelects s .txStall) (.next (finishR (clearPulses s)))

end Sys2Proof.Machine
end

