-- ==== Sys2Proof/Machine/Configurator.lean ====
section
/-! DEFINITION. The channel configurator (44_configurator.md R250 to R261): the commands of the stages, START, the
acknowledgment, the restart. -/
namespace Sys2Proof.Machine

open Sys2Proof

/-- The channel-type byte of a role (R198, D29). -/
def channelType (p : Params) (r : Role) : Byte :=
  match r with
  | .slave => p.chtypeSlave
  | .master => p.chtypeMaster

/-- `load_tx(K_ASSIGN)` for a role (R198, R252, R258). -/
def loadAssign (r : Role) (s : State) : State := loadAssignChannel (channelType s.par r) s.par.networkNumber s

/-- `load_tx(K_CHID)`: the device-id is `cfg_dev_addr_q` (R199, D32). -/
def loadChid (s : State) : State := loadSetChannelId s.cfgQ.devAddr s.par.deviceType s.par.transType s

/-- `stage <- s`, the block's control transfer (R12, R250). -/
def setStage (g : Stage) (s : State) : State := { s with stage := g }

/-- ACK in OpenChannel (R256): a slave announces its address, a master is configured. -/
def ackOpenChannel (s : State) : State :=
  match s.cfgQ.role with
  | .slave => loadAddressAnnounce s.cfgQ.devAddr (setStage .addressAnnounce s)
  | .master => setStage .configured s

/-- `ack_stage()` (R255). It is called only while `waiting = 1` (R224); Idle and Configured have no transition. -/
def ackStage (s : State) : State :=
  match s.stage with
  | .idle => s
  | .assignChannel => loadChid (setStage .setChannelId s)
  | .setChannelId => loadSetPeriod s.cfgQ.period (setStage .setPeriod s)
  | .setPeriod => loadSetFrequency s.cfgQ.freq (setStage .setFrequency s)
  | .setFrequency => loadOpenChannel (setStage .openChannel s)
  | .openChannel => ackOpenChannel s
  | .addressAnnounce => setStage .configured s
  | .configured => s

/-- `restart()` (R258): back to AssignChannel, the command loaded in the same step, the latch untouched. -/
def restart (s : State) : State := loadAssign s.cfgQ.role (setStage .assignChannel s)

/-- The writes of START (R252): the configuration is latched and the role sampled at this edge picks the command. -/
def startBlock (s : State) : State :=
  loadAssign s.ports.host.cfg.role { s with cfgQ := s.ports.host.cfg, stage := .assignChannel }

/-- START (R252). -/
def execStart (s : State) : Host.Outcome State Fault Refusal :=
  whenSelected (rSelects s .start) (.next (finishR (startBlock (clearPulses s))))

/-- R_IDLE in stage Idle with `start = 0` (R260): nothing but the synchroniser and the pulses. -/
def execRIdleInIdle (s : State) : Host.Outcome State Fault Refusal :=
  whenSelected (rSelects s .rIdleInIdle) (.next (finishR (clearPulses s)))

end Sys2Proof.Machine
end

