-- ==== Sys2Proof/Machine/Dispatcher.lean ====
section
/-! DEFINITION. The dispatcher (43_dispatcher.md R220 to R237): one effect per frame row, the routing of R221, and the frame
rows as operations. A frame row is part of the R step that pops the checksum byte (R220). -/
namespace Sys2Proof.Machine

open Sys2Proof

/-! ### What each class does -/

/-- R234: the received, wrong checksum byte is part of F. -/
def onChecksumError (F : List Byte) (s : State) : State := latchReport .checksumError F s

/-- R222. -/
def onEventMalformed (F : List Byte) (s : State) : State := latchReport .malformedEvent F s

/-- R223. -/
def onFunctionResponse (F : List Byte) (s : State) : State := latchReport .functionResponse F s

/-- R224: a silent acknowledgment. -/
def onEventNoErrorAck (s : State) : State := ackStage s

/-- R225: silently consumed. -/
def onEventNoErrorIgnored (s : State) : State := s

/-- R226: report, then restart. -/
def onEventSearchTimeout (F : List Byte) (s : State) : State := restart (latchReport .searchTimeout F s)

/-- R227: swallowed; no report (C4). -/
def onEventRxFail (s : State) : State := s

/-- R228. -/
def onEventTxComplete (s : State) : State := emitTxDone s

/-- R229. -/
def onEventTxCompleteNoCallback (s : State) : State := s

/-- R230. -/
def onEventOther (F : List Byte) (s : State) : State := latchReport .unknownEvent F s

/-- R231. -/
def onBroadcast (F : List Byte) (s : State) : State := emitBcast (latch F s)

/-- R232. -/
def onBroadcastNoCallback (s : State) : State := s

/-- R233. -/
def onOtherMessage (F : List Byte) (s : State) : State := latchReport .unknownMessage F s

/-- `frame_valid` and `checksum_error` (R170, R171, R220): exactly one class, in the R step that completes the frame. -/
def dispatch (F : List Byte) (s : State) : State :=
  match frameClass (frameSignals s) F with
  | .checksumError => onChecksumError F s
  | .eventMalformed => onEventMalformed F s
  | .functionResponse => onFunctionResponse F s
  | .eventNoErrorAck => onEventNoErrorAck s
  | .eventNoErrorIgnored => onEventNoErrorIgnored s
  | .eventSearchTimeout => onEventSearchTimeout F s
  | .eventRxFail => onEventRxFail s
  | .eventTxComplete => onEventTxComplete s
  | .eventTxCompleteNoCallback => onEventTxCompleteNoCallback s
  | .eventOther => onEventOther F s
  | .broadcast => onBroadcast F s
  | .broadcastNoCallback => onBroadcastNoCallback s
  | .otherMessage => onOtherMessage F s

/-! ### The frame rows -/

/-- CHECKSUM_ERROR (R171, R234). -/
def execChecksumError (F : List Byte) (s : State) : Host.Outcome State Fault Refusal :=
  whenSelected (frameSelects s .checksumError F) (.next (onChecksumError F s))

/-- EVENT_MALFORMED (R222). -/
def execEventMalformed (F : List Byte) (s : State) : Host.Outcome State Fault Refusal :=
  whenSelected (frameSelects s .eventMalformed F) (.next (onEventMalformed F s))

/-- FUNCTION_RESPONSE (R223). -/
def execFunctionResponse (F : List Byte) (s : State) : Host.Outcome State Fault Refusal :=
  whenSelected (frameSelects s .functionResponse F) (.next (onFunctionResponse F s))

/-- EVENT_NO_ERROR while waiting (R224). -/
def execEventNoErrorAck (F : List Byte) (s : State) : Host.Outcome State Fault Refusal :=
  whenSelected (frameSelects s .eventNoErrorAck F) (.next (onEventNoErrorAck s))

/-- EVENT_NO_ERROR while not waiting (R225). -/
def execEventNoErrorIgnored (F : List Byte) (s : State) : Host.Outcome State Fault Refusal :=
  whenSelected (frameSelects s .eventNoErrorIgnored F) (.next (onEventNoErrorIgnored s))

/-- EVENT_SEARCH_TIMEOUT (R226). -/
def execEventSearchTimeout (F : List Byte) (s : State) : Host.Outcome State Fault Refusal :=
  whenSelected (frameSelects s .eventSearchTimeout F) (.next (onEventSearchTimeout F s))

/-- EVENT_RX_FAIL (R227). -/
def execEventRxFail (F : List Byte) (s : State) : Host.Outcome State Fault Refusal :=
  whenSelected (frameSelects s .eventRxFail F) (.next (onEventRxFail s))

/-- EVENT_TX_COMPLETE with callback (R228). -/
def execEventTxComplete (F : List Byte) (s : State) : Host.Outcome State Fault Refusal :=
  whenSelected (frameSelects s .eventTxComplete F) (.next (onEventTxComplete s))

/-- EVENT_TX_COMPLETE without callback (R229). -/
def execEventTxCompleteNoCallback (F : List Byte) (s : State) : Host.Outcome State Fault Refusal :=
  whenSelected (frameSelects s .eventTxCompleteNoCallback F) (.next (onEventTxCompleteNoCallback s))

/-- EVENT_OTHER (R230). -/
def execEventOther (F : List Byte) (s : State) : Host.Outcome State Fault Refusal :=
  whenSelected (frameSelects s .eventOther F) (.next (onEventOther F s))

/-- BROADCAST with callback (R231). -/
def execBroadcast (F : List Byte) (s : State) : Host.Outcome State Fault Refusal :=
  whenSelected (frameSelects s .broadcast F) (.next (onBroadcast F s))

/-- BROADCAST without callback (R232). -/
def execBroadcastNoCallback (F : List Byte) (s : State) : Host.Outcome State Fault Refusal :=
  whenSelected (frameSelects s .broadcastNoCallback F) (.next (onBroadcastNoCallback s))

/-- OTHER_MESSAGE (R233). -/
def execOtherMessage (F : List Byte) (s : State) : Host.Outcome State Fault Refusal :=
  whenSelected (frameSelects s .otherMessage F) (.next (onOtherMessage F s))

end Sys2Proof.Machine
end

