-- ==== Sys2Proof/Machine/Assembler.lean ====
section
/-! DEFINITION. The frame assembler and checksum validator (41_frame_assembler.md R160 to R175): one effect per case, the
choice of R160, and the assembler rows as operations. An assembler row is part of the R step that pops the byte (R160). -/
namespace Sys2Proof.Machine

open Sys2Proof

/-! ### What each case does -/

/-- `fa_buf[fa_pos] <- b`. The case conditions keep the index below 21 (R33). -/
def storeFaBuf (i : Nat) (b : Byte) (s : State) : State := { s with faBuf := s.faBuf.setIfInBounds i b }

/-- R161: the byte is discarded. -/
def onHuntDiscard (s : State) : State := s

/-- R162: the in-frame flag is set (C2). -/
def onHuntSync (s : State) : State := { storeFaBuf 0 SYNC s with faIn := true, faPos := 1 }

/-- R163: the candidate so far is abandoned silently. -/
def onResync (s : State) : State := { storeFaBuf 0 SYNC s with faPos := 1 }

/-- R164. -/
def onLength (b : Byte) (s : State) : State := { storeFaBuf 1 b s with faPos := 2 }

/-- R165: the candidate is discarded silently. -/
def onLengthInvalid (s : State) : State := { s with faIn := false, faPos := 0 }

/-- R166. -/
def onMessageId (b : Byte) (s : State) : State := { storeFaBuf 2 b s with faPos := 3 }

/-- R167. -/
def onPayloadByte (b : Byte) (s : State) : State := { storeFaBuf s.faPos.toNat b s with faPos := s.faPos + 1 }

/-- The candidate frame `F = [fa_buf[0], ..., fa_buf[n-1], b]` with `n = fa_pos` (R168). -/
def candidate (b : Byte) (s : State) : List Byte := s.faBuf.toList.take s.faPos.toNat ++ [b]

/-- R168: the byte is stored, the assembler hunts again, and the frame is dispatched or reported (R170, R171). -/
def onChecksumByte (b : Byte) (s : State) : State :=
  dispatch (candidate b s) { storeFaBuf s.faPos.toNat b s with faIn := false, faPos := 0 }

/-- The one case a popped byte takes (R160); none only in states that R33 excludes. -/
def assemble (b : Byte) (s : State) : Option State :=
  match asmCase (asmSignals s) b with
  | none => none
  | some .huntDiscard => some (onHuntDiscard s)
  | some .huntSync => some (onHuntSync s)
  | some .resync => some (onResync s)
  | some .length => some (onLength b s)
  | some .lengthInvalid => some (onLengthInvalid s)
  | some .messageId => some (onMessageId b s)
  | some .payloadByte => some (onPayloadByte b s)
  | some .checksumByte => some (onChecksumByte b s)

/-! ### The assembler rows -/

/-- HUNT_DISCARD (R161). -/
def execHuntDiscard (b : Byte) (s : State) : Host.Outcome State Fault Refusal :=
  whenSelected (asmSelects s .huntDiscard b) (.next (onHuntDiscard s))

/-- HUNT_SYNC (R162). -/
def execHuntSync (s : State) : Host.Outcome State Fault Refusal :=
  whenSelected (asmSelects s .huntSync SYNC) (.next (onHuntSync s))

/-- RESYNC (R163). -/
def execResync (s : State) : Host.Outcome State Fault Refusal :=
  whenSelected (asmSelects s .resync SYNC) (.next (onResync s))

/-- LENGTH (R164). -/
def execLength (b : Byte) (s : State) : Host.Outcome State Fault Refusal :=
  whenSelected (asmSelects s .length b) (.next (onLength b s))

/-- LENGTH_INVALID (R165). -/
def execLengthInvalid (b : Byte) (s : State) : Host.Outcome State Fault Refusal :=
  whenSelected (asmSelects s .lengthInvalid b) (.next (onLengthInvalid s))

/-- MESSAGE_ID (R166). -/
def execMessageId (b : Byte) (s : State) : Host.Outcome State Fault Refusal :=
  whenSelected (asmSelects s .messageId b) (.next (onMessageId b s))

/-- PAYLOAD_BYTE (R167). -/
def execPayloadByte (b : Byte) (s : State) : Host.Outcome State Fault Refusal :=
  whenSelected (asmSelects s .payloadByte b) (.next (onPayloadByte b s))

/-- CHECKSUM_BYTE (R168). -/
def execChecksumByte (b : Byte) (s : State) : Host.Outcome State Fault Refusal :=
  whenSelected (asmSelects s .checksumByte b) (.next (onChecksumByte b s))

end Sys2Proof.Machine
end

