-- ==== Sys2Proof/Machine/RingBuffer.lean ====
section
/-! DEFINITION. The ring buffer's operations (40_ring_buffer.md R130 to R145): PUSH, PUSH_DROP, W_IDLE, POP. Each is a whole
edge of its domain (R280, R288). -/
namespace Sys2Proof.Machine

open Sys2Proof

/-- PUSH (R131). -/
def execPush (s : State) : Host.Outcome State Fault Refusal :=
  whenSelected (wSelects s .push)
    (if s.wbin.toNat < s.par.depth then .next (finishW (pushByte s.ports.wrData s)) else .fault .outsideStorage)

/-- PUSH_DROP (R132): the byte is lost silently; only the synchroniser shifts. -/
def execPushDrop (s : State) : Host.Outcome State Fault Refusal :=
  whenSelected (wSelects s .pushDrop) (.next (finishW s))

/-- W_IDLE (R138): only the synchroniser shifts. -/
def execWIdle (s : State) : Host.Outcome State Fault Refusal :=
  whenSelected (wSelects s .wIdle) (.next (finishW s))

/-- The R step that pops (R135, R280): the byte goes to the assembler in the same step, and the read pointer advances. -/
def popByte (s : State) : Host.Outcome State Fault Refusal :=
  match fifoRead s with
  | .error f => .fault f
  | .ok b =>
    match assemble b (clearPulses s) with
    | none => .fault .noAssemblerCase
    | some s' => .next (finishR (advanceRead s'))

/-- POP (R135). -/
def execPop (s : State) : Host.Outcome State Fault Refusal := whenSelected (rSelects s .pop) (popByte s)

end Sys2Proof.Machine
end

