-- ==== Sys2Proof/Machine/HostPort.lean ====
section
/-! DEFINITION. The host request port (45_host_interface.md R285 to R287): the twelve host rows, HOST_REQ, and the two rows
of R_IDLE outside Idle (R145). The kinds 0x2 to 0x5 read the latched configuration, never the input ports (R104). -/
namespace Sys2Proof.Machine

open Sys2Proof

/-! ### What each kind does (R103) -/

/-- Kind 0x0 (R196). -/
def onHostKReset (s : State) : State := loadSystemReset s

/-- Kind 0x1 (R197): `host_req_arg` is the target message id. -/
def onHostKCapreq (s : State) : State := loadCapabilityRequest s.ports.host.reqArg s

/-- Kind 0x2 (R198): the latched role. -/
def onHostKAssign (s : State) : State := loadAssign s.cfgQ.role s

/-- Kind 0x3 (R199): the latched device address. -/
def onHostKChid (s : State) : State := loadChid s

/-- Kind 0x4 (R200): the latched period. -/
def onHostKPeriod (s : State) : State := loadSetPeriod s.cfgQ.period s

/-- Kind 0x5 (R201): the latched frequency. -/
def onHostKFreq (s : State) : State := loadSetFrequency s.cfgQ.freq s

/-- Kind 0x6 (R202): `host_req_arg` is the timeout. -/
def onHostKStimeout (s : State) : State := loadSetSearchTimeout s.ports.host.reqArg s

/-- Kind 0x7 (R203). -/
def onHostKOpen (s : State) : State := loadOpenChannel s

/-- Kind 0x8 (R204): `host_req_addr` and `host_req_data`. -/
def onHostKBcast (s : State) : State := loadBroadcastData s.ports.host.reqAddr s.ports.host.reqData s

/-- Kind 0x9 (R205): `host_req_addr` and `host_req_data`. -/
def onHostKAckdata (s : State) : State := loadAcknowledgedData s.ports.host.reqAddr s.ports.host.reqData s

/-- Kinds 0xA to 0xF (R106, R286): nothing is sent, and the frame latch is not written (R284). -/
def onHostReserved (s : State) : State := report .badHostRequest s

/-- The accepted request (R285): the codes of R103, the reserved ones of R286. -/
def acceptRequest (s : State) : State :=
  match s.ports.host.reqKind.toNat with
  | 0x0 => onHostKReset s
  | 0x1 => onHostKCapreq s
  | 0x2 => onHostKAssign s
  | 0x3 => onHostKChid s
  | 0x4 => onHostKPeriod s
  | 0x5 => onHostKFreq s
  | 0x6 => onHostKStimeout s
  | 0x7 => onHostKOpen s
  | 0x8 => onHostKBcast s
  | 0x9 => onHostKAckdata s
  | _ => onHostReserved s

/-! ### The host rows -/

/-- HOST_K_RESET (R103, R196). -/
def execHostKReset (s : State) : Host.Outcome State Fault Refusal :=
  whenSelected (hostSelects s .hostKReset) (.next (onHostKReset s))

/-- HOST_K_CAPREQ (R103, R197). -/
def execHostKCapreq (s : State) : Host.Outcome State Fault Refusal :=
  whenSelected (hostSelects s .hostKCapreq) (.next (onHostKCapreq s))

/-- HOST_K_ASSIGN (R103, R198). -/
def execHostKAssign (s : State) : Host.Outcome State Fault Refusal :=
  whenSelected (hostSelects s .hostKAssign) (.next (onHostKAssign s))

/-- HOST_K_CHID (R103, R199). -/
def execHostKChid (s : State) : Host.Outcome State Fault Refusal :=
  whenSelected (hostSelects s .hostKChid) (.next (onHostKChid s))

/-- HOST_K_PERIOD (R103, R200). -/
def execHostKPeriod (s : State) : Host.Outcome State Fault Refusal :=
  whenSelected (hostSelects s .hostKPeriod) (.next (onHostKPeriod s))

/-- HOST_K_FREQ (R103, R201). -/
def execHostKFreq (s : State) : Host.Outcome State Fault Refusal :=
  whenSelected (hostSelects s .hostKFreq) (.next (onHostKFreq s))

/-- HOST_K_STIMEOUT (R103, R202). -/
def execHostKStimeout (s : State) : Host.Outcome State Fault Refusal :=
  whenSelected (hostSelects s .hostKStimeout) (.next (onHostKStimeout s))

/-- HOST_K_OPEN (R103, R203). -/
def execHostKOpen (s : State) : Host.Outcome State Fault Refusal :=
  whenSelected (hostSelects s .hostKOpen) (.next (onHostKOpen s))

/-- HOST_K_BCAST (R103, R204). -/
def execHostKBcast (s : State) : Host.Outcome State Fault Refusal :=
  whenSelected (hostSelects s .hostKBcast) (.next (onHostKBcast s))

/-- HOST_K_ACKDATA (R103, R205). -/
def execHostKAckdata (s : State) : Host.Outcome State Fault Refusal :=
  whenSelected (hostSelects s .hostKAckdata) (.next (onHostKAckdata s))

/-- HOST_RESERVED_A_B (R106, R286). -/
def execHostReservedAB (low : BitVec 1) (s : State) : Host.Outcome State Fault Refusal :=
  whenSelected (hostSelects s (.hostReservedAB low)) (.next (onHostReserved s))

/-- HOST_RESERVED_C_F (R106, R286). -/
def execHostReservedCF (low : BitVec 2) (s : State) : Host.Outcome State Fault Refusal :=
  whenSelected (hostSelects s (.hostReservedCF low)) (.next (onHostReserved s))

/-! ### The R port rows of the host's side -/

/-- HOST_REQ (R285, R286). -/
def execHostReq (s : State) : Host.Outcome State Fault Refusal :=
  whenSelected (rSelects s .hostReq) (.next (finishR (acceptRequest (clearPulses s))))

/-- R_IDLE, running, FIFO empty, no request (R145). -/
def execRIdleNoRequest (s : State) : Host.Outcome State Fault Refusal :=
  whenSelected (rSelects s .rIdleNoRequest) (.next (finishR (clearPulses s)))

/-- R_IDLE, running, FIFO empty, the request not ready (R145). -/
def execRIdleNotReady (s : State) : Host.Outcome State Fault Refusal :=
  whenSelected (rSelects s .rIdleNotReady) (.next (finishR (clearPulses s)))

end Sys2Proof.Machine
end

