-- ==== Sys2Proof/Machine/Dispatch.lean ====
section
/-! DEFINITION. One arm per row of the opcode table, each one call of its meaning. -/
namespace Sys2Proof.Machine

open Sys2Proof

/-- The meaning of every operation. -/
def exec (i : Instr) (s : State) : Host.Outcome State Fault Refusal :=
  match i with
  | .checksumError F => Sys2Proof.Machine.execChecksumError F s
  | .eventMalformed F => Sys2Proof.Machine.execEventMalformed F s
  | .functionResponse F => Sys2Proof.Machine.execFunctionResponse F s
  | .eventNoErrorAck F => Sys2Proof.Machine.execEventNoErrorAck F s
  | .eventNoErrorIgnored F => Sys2Proof.Machine.execEventNoErrorIgnored F s
  | .eventSearchTimeout F => Sys2Proof.Machine.execEventSearchTimeout F s
  | .eventRxFail F => Sys2Proof.Machine.execEventRxFail F s
  | .eventTxComplete F => Sys2Proof.Machine.execEventTxComplete F s
  | .eventTxCompleteNoCallback F => Sys2Proof.Machine.execEventTxCompleteNoCallback F s
  | .eventOther F => Sys2Proof.Machine.execEventOther F s
  | .broadcast F => Sys2Proof.Machine.execBroadcast F s
  | .broadcastNoCallback F => Sys2Proof.Machine.execBroadcastNoCallback F s
  | .otherMessage F => Sys2Proof.Machine.execOtherMessage F s
  | .systemReset => Sys2Proof.Machine.execSystemReset s
  | .capabilityRequest target => Sys2Proof.Machine.execCapabilityRequest target s
  | .assignChannel channelType networkNumber => Sys2Proof.Machine.execAssignChannel channelType networkNumber s
  | .setChannelId deviceId deviceType transType => Sys2Proof.Machine.execSetChannelId deviceId deviceType transType s
  | .setPeriod period => Sys2Proof.Machine.execSetPeriod period s
  | .setFrequency freq => Sys2Proof.Machine.execSetFrequency freq s
  | .setSearchTimeout timeout => Sys2Proof.Machine.execSetSearchTimeout timeout s
  | .openChannel => Sys2Proof.Machine.execOpenChannel s
  | .broadcastData addr data => Sys2Proof.Machine.execBroadcastData addr data s
  | .acknowledgedData addr data => Sys2Proof.Machine.execAcknowledgedData addr data s
  | .addressAnnounce addr => Sys2Proof.Machine.execAddressAnnounce addr s
  | .hostKReset => Sys2Proof.Machine.execHostKReset s
  | .hostKCapreq => Sys2Proof.Machine.execHostKCapreq s
  | .hostKAssign => Sys2Proof.Machine.execHostKAssign s
  | .hostKChid => Sys2Proof.Machine.execHostKChid s
  | .hostKPeriod => Sys2Proof.Machine.execHostKPeriod s
  | .hostKFreq => Sys2Proof.Machine.execHostKFreq s
  | .hostKStimeout => Sys2Proof.Machine.execHostKStimeout s
  | .hostKOpen => Sys2Proof.Machine.execHostKOpen s
  | .hostKBcast => Sys2Proof.Machine.execHostKBcast s
  | .hostKAckdata => Sys2Proof.Machine.execHostKAckdata s
  | .hostReservedAB low => Sys2Proof.Machine.execHostReservedAB low s
  | .hostReservedCF low => Sys2Proof.Machine.execHostReservedCF low s
  | .huntDiscard b => Sys2Proof.Machine.execHuntDiscard b s
  | .huntSync => Sys2Proof.Machine.execHuntSync s
  | .resync => Sys2Proof.Machine.execResync s
  | .length b => Sys2Proof.Machine.execLength b s
  | .lengthInvalid b => Sys2Proof.Machine.execLengthInvalid b s
  | .messageId b => Sys2Proof.Machine.execMessageId b s
  | .payloadByte b => Sys2Proof.Machine.execPayloadByte b s
  | .checksumByte b => Sys2Proof.Machine.execChecksumByte b s
  | .push => Sys2Proof.Machine.execPush s
  | .pushDrop => Sys2Proof.Machine.execPushDrop s
  | .wIdle => Sys2Proof.Machine.execWIdle s
  | .txByte => Sys2Proof.Machine.execTxByte s
  | .txStall => Sys2Proof.Machine.execTxStall s
  | .start => Sys2Proof.Machine.execStart s
  | .hostReq => Sys2Proof.Machine.execHostReq s
  | .pop => Sys2Proof.Machine.execPop s
  | .rIdleInIdle => Sys2Proof.Machine.execRIdleInIdle s
  | .rIdleNoRequest => Sys2Proof.Machine.execRIdleNoRequest s
  | .rIdleNotReady => Sys2Proof.Machine.execRIdleNotReady s

end Sys2Proof.Machine
end

