-- ==== Sys2Proof/Machine/Fetch.lean ====
section
/-! DEFINITION. What the next event does: which rows of the opcode table an edge runs, the events of the external agents
(R17, R289, R330 to R333), and, for the host's probes, the state in which the next step runs a given row. -/
namespace Sys2Proof.Machine

open Sys2Proof

/-! ### Which row an edge runs -/

/-- The W row of the next event (R114, R288), if the W domain takes a step. -/
def wRow (s : State) : Option Instr :=
  if wStep s then (decode s.par (.wPort (wSignals s))).toOption else none

/-- The R row of the next event (R114, R280, R282), if the R domain takes a step. -/
def rRow (s : State) : Option Instr :=
  if rStep s then (decode s.par (.rPort (rSignals s))).toOption else none

/-- The row the next event's edge runs, in whichever domain takes a step. -/
def edgeRow (s : State) : Option Instr := (wRow s).or (rRow s)

/-- The assembler row of a POP (R160): the byte popped and its case. -/
def asmRow (s : State) : Option Instr :=
  match rRow s, fifoRead s with
  | some .pop, .ok b => (decode s.par (.asmByte (asmSignals s) b)).toOption
  | _, _ => none

/-- The frame row of a CHECKSUM_BYTE (R168, R170, R171). -/
def frameRow (s : State) : Option Instr :=
  match asmRow s with
  | some (.checksumByte b) => some ((frameClass (frameSignals s) (candidate b s)).row (candidate b s))
  | _ => none

/-- The host row of a HOST_REQ (R285). -/
def hostPortRow (s : State) : Option Instr :=
  match rRow s with
  | some .hostReq => (decode s.par (.hostReq s.ports.host.reqKind)).toOption
  | _ => none

/-- The outbound row a host row loads, with its arguments' sources (R98, R103, R104). -/
def hostTxRow (s : State) : Instr → Option Instr
  | .hostKReset => some .systemReset
  | .hostKCapreq => some (.capabilityRequest s.ports.host.reqArg)
  | .hostKAssign => some (.assignChannel (channelType s.par s.cfgQ.role) s.par.networkNumber)
  | .hostKChid => some (.setChannelId s.cfgQ.devAddr s.par.deviceType s.par.transType)
  | .hostKPeriod => some (.setPeriod s.cfgQ.period)
  | .hostKFreq => some (.setFrequency s.cfgQ.freq)
  | .hostKStimeout => some (.setSearchTimeout s.ports.host.reqArg)
  | .hostKOpen => some .openChannel
  | .hostKBcast => some (.broadcastData s.ports.host.reqAddr s.ports.host.reqData)
  | .hostKAckdata => some (.acknowledgedData s.ports.host.reqAddr s.ports.host.reqData)
  | _ => none

/-- `cmd(s)`: the outbound row of a command stage, with its arguments' sources (R98, R254). -/
def stageTxRow (s : State) : Stage → Option Instr
  | .idle => none
  | .assignChannel => some (.assignChannel (channelType s.par s.cfgQ.role) s.par.networkNumber)
  | .setChannelId => some (.setChannelId s.cfgQ.devAddr s.par.deviceType s.par.transType)
  | .setPeriod => some (.setPeriod s.cfgQ.period)
  | .setFrequency => some (.setFrequency s.cfgQ.freq)
  | .openChannel => some .openChannel
  | .addressAnnounce => some (.addressAnnounce s.cfgQ.devAddr)
  | .configured => none

/-- The stage an acknowledgment leads to (R255, R256). -/
def nextStage (r : Role) : Stage → Stage
  | .idle => .idle
  | .assignChannel => .setChannelId
  | .setChannelId => .setPeriod
  | .setPeriod => .setFrequency
  | .setFrequency => .openChannel
  | .openChannel => if r = .slave then .addressAnnounce else .configured
  | .addressAnnounce => .configured
  | .configured => .configured

/-- The outbound row the edge loads, if it loads one (R195). -/
def txRowOfEdge (s : State) : Option Instr :=
  match rRow s, frameRow s, hostPortRow s with
  | some .start, _, _ => some (.assignChannel (channelType s.par s.ports.host.cfg.role) s.par.networkNumber)
  | _, some (.eventNoErrorAck _), _ => stageTxRow s (nextStage s.cfgQ.role s.stage)
  | _, some (.eventSearchTimeout _), _ => stageTxRow s .assignChannel
  | _, _, some h => hostTxRow s h
  | _, _, _ => none

/-- Every row of the opcode table that the next event's edge runs, outermost first. -/
def edgeRows (s : State) : List Instr :=
  [edgeRow s, asmRow s, hostPortRow s, frameRow s, txRowOfEdge s].filterMap id

/-! ### The external agents -/

/-- The Producer drives its ports (R289). -/
def driveProducer (wrEn : Bool) (wrData : Byte) (s : State) : State :=
  { s with ports := { s.ports with wrEn := wrEn, wrData := wrData }, stimulus := s.stimulus.tail }

/-- The Transport drives `tx_ready` (R289). -/
def driveTransport (txReady : Bool) (s : State) : State :=
  { s with ports := { s.ports with txReady := txReady }, stimulus := s.stimulus.tail }

/-- The Host drives its ports (R289). -/
def driveHost (h : HostPorts) (s : State) : State :=
  { s with ports := { s.ports with host := h }, stimulus := s.stimulus.tail }

/-- Reset drives `rst_n` (R330, R331), to both domains at once (R333). -/
def driveReset (rstN : Bool) (s : State) : State :=
  { (if rstN then releaseReset s else assertReset s) with stimulus := s.stimulus.tail }

/-- A `wclk` edge (R288): the selected row runs; a domain in reset takes no step (R330, R331). -/
def wEdge (s : State) : Host.Outcome State Fault Refusal :=
  match wRow s with
  | some i => exec i s
  | none => .next (wEdgeInReset s)

/-- An `rclk` edge (R280): the selected row runs; a domain in reset takes no step (R330, R331). -/
def rEdge (s : State) : Host.Outcome State Fault Refusal :=
  match rRow s with
  | some i => exec i s
  | none => .next (rEdgeInReset s)

/-! ### Arranging a row (for `withFetchWord`) -/

/-- Both domains out of reset, and a `wclk` edge next. -/
def atW (s : State) : State :=
  { s with ports := { s.ports with rstN := true }, wRst := ⟨true, true⟩, stimulus := .wclk .current :: s.stimulus }

/-- Both domains out of reset, and an `rclk` edge next. -/
def atR (s : State) : State :=
  { s with ports := { s.ports with rstN := true }, rRst := ⟨true, true⟩, stimulus := .rclk .current :: s.stimulus }

/-- Running in stage `g`, nothing to transmit, the assembler hunting, the FIFO seen empty, no request. -/
def quiet (g : Stage) (s : State) : State :=
  { s with
    stage := g
    txActive := false
    faIn := false
    faPos := 0
    wq := { s.wq with last := s.rgray }
    ports := { s.ports with host := { s.ports.host with reqValid := false } } }

/-- The byte `b` stored at the read pointer and visible to the R domain. -/
def offerByte (b : Byte) (s : State) : State :=
  { s with
    mem := memWrite s.mem s.rbin.toNat b
    wbin := s.par.inc s.rbin
    wgray := gray (s.par.inc s.rbin)
    wq := { s.wq with last := gray (s.par.inc s.rbin) } }

/-- The assembler inside the candidate frame whose first bytes are `F`. -/
def inFrame (F : List Byte) (s : State) : State :=
  { s with
    faIn := true
    faPos := BitVec.ofNat 5 F.length
    faBuf := s.faBuf.mapIdx fun i b => if i < F.length then frameByte F i else b }

/-- A request of kind `k` accepted at the next edge. -/
def request (k : BitVec 4) (arg : Byte) (addr : Half) (data : Data6) (s : State) : State :=
  let q := quiet .configured s
  { q with ports := { q.ports with host := { q.ports.host with reqValid := true, reqKind := k, reqArg := arg, reqAddr := addr, reqData := data } } }

/-- The last byte of `F` is popped next, with the row's condition signals. -/
def completing (c : FrameClass) (F : List Byte) (s : State) : State :=
  let q := quiet (if c.signals.waiting then .assignChannel else .configured) s
  let q := { q with cfgQ := { q.cfgQ with bcastEn := c.signals.bcastEn, txcEn := c.signals.txcEn } }
  offerByte (F.getLastD 0) (inFrame F.dropLast q)

/-- The request of kind `k` with the operands the ports hold. -/
def requestAsIs (k : BitVec 4) (s : State) : State :=
  request k s.ports.host.reqArg s.ports.host.reqAddr s.ports.host.reqData s

/-- The state, made from `s`, in which the next step runs the row `i`. It sets what selects the row and what its operands
are read from (log 10). -/
def arrange (i : Instr) (s : State) : State :=
  match i with
  | .checksumError F => atR (completing .checksumError F s)
  | .eventMalformed F => atR (completing .eventMalformed F s)
  | .functionResponse F => atR (completing .functionResponse F s)
  | .eventNoErrorAck F => atR (completing .eventNoErrorAck F s)
  | .eventNoErrorIgnored F => atR (completing .eventNoErrorIgnored F s)
  | .eventSearchTimeout F => atR (completing .eventSearchTimeout F s)
  | .eventRxFail F => atR (completing .eventRxFail F s)
  | .eventTxComplete F => atR (completing .eventTxComplete F s)
  | .eventTxCompleteNoCallback F => atR (completing .eventTxCompleteNoCallback F s)
  | .eventOther F => atR (completing .eventOther F s)
  | .broadcast F => atR (completing .broadcast F s)
  | .broadcastNoCallback F => atR (completing .broadcastNoCallback F s)
  | .otherMessage F => atR (completing .otherMessage F s)
  | .systemReset => atR (requestAsIs 0x0 s)
  | .capabilityRequest target => atR (request 0x1 target s.ports.host.reqAddr s.ports.host.reqData s)
  | .assignChannel ty net =>
    atR (requestAsIs 0x2 { s with cfgQ := { s.cfgQ with role := .slave }, par := { s.par with chtypeSlave := ty, networkNumber := net } })
  | .setChannelId dev dty tty =>
    atR (requestAsIs 0x3 { s with cfgQ := { s.cfgQ with devAddr := dev }, par := { s.par with deviceType := dty, transType := tty } })
  | .setPeriod v => atR (requestAsIs 0x4 { s with cfgQ := { s.cfgQ with period := v } })
  | .setFrequency f => atR (requestAsIs 0x5 { s with cfgQ := { s.cfgQ with freq := f } })
  | .setSearchTimeout t => atR (request 0x6 t s.ports.host.reqAddr s.ports.host.reqData s)
  | .openChannel => atR (requestAsIs 0x7 s)
  | .broadcastData a d => atR (request 0x8 s.ports.host.reqArg a d s)
  | .acknowledgedData a d => atR (request 0x9 s.ports.host.reqArg a d s)
  | .addressAnnounce a =>
    atR { completing .eventNoErrorAck (build ID_EVENT [0x00, 0x01, 0x00]) { s with cfgQ := { s.cfgQ with role := .slave, devAddr := a } } with
      stage := .openChannel }
  | .hostKReset => atR (requestAsIs 0x0 s)
  | .hostKCapreq => atR (requestAsIs 0x1 s)
  | .hostKAssign => atR (requestAsIs 0x2 s)
  | .hostKChid => atR (requestAsIs 0x3 s)
  | .hostKPeriod => atR (requestAsIs 0x4 s)
  | .hostKFreq => atR (requestAsIs 0x5 s)
  | .hostKStimeout => atR (requestAsIs 0x6 s)
  | .hostKOpen => atR (requestAsIs 0x7 s)
  | .hostKBcast => atR (requestAsIs 0x8 s)
  | .hostKAckdata => atR (requestAsIs 0x9 s)
  | .hostReservedAB low => atR (requestAsIs (reservedABKind low) s)
  | .hostReservedCF low => atR (requestAsIs (reservedCFKind low) s)
  | .huntDiscard b => atR (offerByte b (quiet .configured s))
  | .huntSync => atR (offerByte SYNC (quiet .configured s))
  | .resync => atR (offerByte SYNC (inFrame [SYNC] (quiet .configured s)))
  | .length b => atR (offerByte b (inFrame [SYNC] (quiet .configured s)))
  | .lengthInvalid b => atR (offerByte b (inFrame [SYNC] (quiet .configured s)))
  | .messageId b => atR (offerByte b (inFrame [SYNC, 0] (quiet .configured s)))
  | .payloadByte b => atR (offerByte b (inFrame [SYNC, 1, 0] (quiet .configured s)))
  | .checksumByte b => atR (offerByte b (inFrame [SYNC, 0, 0] (quiet .configured s)))
  | .push => atW { s with ports := { s.ports with wrEn := true }, rq := { s.rq with last := gray s.wbin } }
  | .pushDrop => atW { s with ports := { s.ports with wrEn := true }, rq := { s.rq with last := gray (s.par.inc s.wbin) } }
  | .wIdle => atW { s with ports := { s.ports with wrEn := false } }
  | .txByte => atR (loadOpenChannel { quiet .openChannel s with ports := { s.ports with txReady := true } })
  | .txStall => atR (loadOpenChannel { quiet .openChannel s with ports := { s.ports with txReady := false } })
  | .start =>
    let q := quiet .idle s
    atR { q with ports := { q.ports with host := { q.ports.host with start := true } } }
  | .hostReq => atR (requestAsIs s.ports.host.reqKind s)
  | .pop => atR (offerByte 0 (quiet .configured s))
  | .rIdleInIdle =>
    let q := quiet .idle s
    atR { q with ports := { q.ports with host := { q.ports.host with start := false } } }
  | .rIdleNoRequest => atR (quiet .configured s)
  | .rIdleNotReady => atR (inFrame [SYNC] (requestAsIs s.ports.host.reqKind s))

/-- `withFetchWord`'s state: the row the decoder reads from the word runs next; a word that is no row changes nothing. -/
def fetchWord (s : State) (nbits w : Nat) : State :=
  match decodeTableWord nbits w with
  | some i => arrange i s
  | none => s

end Sys2Proof.Machine
end

