-- ==== Sys2Proof/Machine/Step.lean ====
section
/-! DEFINITION. One step: the next event of `stimulus` (R7, R17). With no event, no clock edge comes and every register holds
its value (R312). -/
namespace Sys2Proof.Machine

open Sys2Proof

/-- One event: an edge of a domain (R280, R288), or an external agent driving its ports (R289, R330), or a stimulus that
the spec says to refuse (R143, R333). -/
def step (s : State) : Host.Outcome State Fault Refusal :=
  match s.stimulus with
  | [] => .next s
  | .wclk _ :: _ => wEdge s
  | .rclk _ :: _ => rEdge s
  | .producer wrEn wrData :: _ => .next (driveProducer wrEn wrData s)
  | .transport txReady :: _ => .next (driveTransport txReady s)
  | .host h :: _ => .next (driveHost h s)
  | .reset rstN :: _ => .next (driveReset rstN s)
  | .outside v :: _ => .refused (.outsideDomain v)

/-- The state in which the very next step runs the operation of a table word (log 10). -/
def State.withFetchWord (s : State) (nbits w : Nat) : State := fetchWord s nbits w

end Sys2Proof.Machine
end

