-- ==== Sys2Proof/Machine/Observe.lean ====
section
/-! DEFINITION. The observation of 00_scope.md R17 that a claim is stated over: the bytes accepted on the transmit port, the
event pulses with the latched frame, the diagnostic reports, the `stage` output. -/
namespace Sys2Proof.Machine

open Sys2Proof

/-- What one step shows (R17). -/
structure Observation where
  /-- The byte the Transport takes at this edge (R192). -/
  accepted : Option Byte
  /-- The frame and length of a broadcast callback (R283). -/
  bcast : Option (List Byte × BitVec 5)
  /-- The frame and length at the pulse of a transmit-complete callback (R17: "at each pulse"; R283: it carries none of its own). -/
  txDone : Option (List Byte × BitVec 5)
  /-- The kind, frame and length of a diagnostic report (R284). -/
  diag : Option (DiagKind × List Byte × BitVec 5)
  /-- The `stage` output after the step (R23). -/
  stage : Stage
  deriving DecidableEq, Repr

/-- The byte the Transport takes at the next event (R42, R192): at a TX_BYTE edge, `tx_data`. -/
def acceptedByte (s : State) : Option Byte := if rSelects s .txByte then txData s else none

/-- What the step from `s` to `t` shows: the byte accepted at the edge, and the pulses the edge sets (R281). -/
def observe (s t : State) : Observation where
  accepted := acceptedByte s
  bcast := if rStep s && t.bcastEvt then some (t.outFrame.toList, t.outLen) else none
  txDone := if rStep s && t.txcEvt then some (t.outFrame.toList, t.outLen) else none
  diag := if rStep s && t.diagValid then some (t.diagKind, t.outFrame.toList, t.outLen) else none
  stage := t.stage

/-- The observations of up to `n` steps, and the state reached; the run ends at the first fault or refusal. -/
def observeRun : Nat → State → List Observation × State
  | 0, s => ([], s)
  | n + 1, s =>
    match step s with
    | .next t => let r := observeRun n t; (observe s t :: r.1, r.2)
    | _ => ([], s)

end Sys2Proof.Machine
end

