-- ==== Sys2Proof/Safety.lean ====
section
/-! DEFINITION. What claims about the block are stated in: when a domain takes a step, what a loaded frame is, the invariants
of the spec (R27, R30, R33, R36, R38, R46, R140, R236, R331), the FIFO as a queue (R79), the assembler fed with bytes
(R174). -/
namespace Sys2Proof.Machine

open Sys2Proof

/-! ### When a domain takes a step -/

/-- The next event is a `wclk` edge with draw `d`, `rest` comes after it, and the W domain is out of reset (R288, R331). -/
def WStepAt (s : State) (d : Draw) (rest : List Stimulus) : Prop :=
  s.stimulus = .wclk d :: rest ∧ s.ports.rstN = true ∧ s.wRst.ff2 = true

/-- The next event is an `rclk` edge with draw `d`, `rest` comes after it, and the R domain is out of reset (R280, R331). -/
def RStepAt (s : State) (d : Draw) (rest : List Stimulus) : Prop :=
  s.stimulus = .rclk d :: rest ∧ s.ports.rstN = true ∧ s.rRst.ff2 = true

/-- The next event is a clock edge. -/
def ClockEdge (s : State) : Prop := ∃ d rest, s.stimulus = .wclk d :: rest ∨ s.stimulus = .rclk d :: rest

/-- What every R edge leaves besides its row's own writes (R137, R281): pulses cleared, `wq` shifted, the event consumed. -/
def afterREdge (d : Draw) (rest : List Stimulus) (s : State) : State :=
  { s with
    bcastEvt := false
    txcEvt := false
    diagValid := false
    wq := s.wq.shift (sample s.wgChanged d s.wgray s.wgPrev)
    wgChanged := false
    stimulus := rest }

/-- What every W edge leaves besides its row's own writes (R136): `rq` shifted, the event consumed. -/
def afterWEdge (d : Draw) (rest : List Stimulus) (s : State) : State :=
  { s with rq := s.rq.shift (sample s.rgChanged d s.rgray s.rgPrev), rgChanged := false, stimulus := rest }

/-- The state with the frame `T` loaded for transmission (R195): its bytes first, the other elements as before. -/
def withLoadedFrame (T : List Byte) (s : State) : State :=
  { s with
    txBuf := s.txBuf.mapIdx fun i b => (T[i]?).getD b
    txLen := BitVec.ofNat 4 T.length
    txIdx := 0
    txActive := true }

/-- The state with the frame `F` latched (R235): its bytes, zeros after them, its byte count. -/
def withLatchedFrame (F : List Byte) (s : State) : State :=
  { s with outFrame := s.outFrame.mapIdx fun i _ => (F[i]?).getD 0x00, outLen := BitVec.ofNat 5 F.length }

/-! ### Invariants -/

/-- R33, with what makes it hold from step to step: inside a frame the sync, a legal length byte and no second sync are
stored. -/
def AssemblerInv (s : State) : Prop :=
  (s.faIn = false → s.faPos = 0) ∧
  (s.faIn = true →
    1 ≤ s.faPos.toNat ∧ s.faPos.toNat ≤ MAX_PAYLOAD + 3 ∧ s.faBuf[0] = SYNC ∧
    (2 ≤ s.faPos.toNat → s.faBuf[1].toNat ≤ MAX_PAYLOAD) ∧
    (3 ≤ s.faPos.toNat → s.faPos.toNat ≤ s.faBuf[1].toNat + 3) ∧
    ∀ i, 1 ≤ i → i < s.faPos.toNat → s.faBuf[i]? ≠ some SYNC)

/-- R36, R38, R102, R191: while transmitting, the index is inside the frame, the byte count is a command's, and the buffer
holds a frame with sync, its payload count and a matching checksum; otherwise the index is 0; Idle never transmits. -/
def TransmitInv (s : State) : Prop :=
  (s.txActive = true →
    s.txIdx < s.txLen ∧ s.txLen.toNat ∈ [5, 6, 7, 9, 13] ∧
    s.txBuf[0] = SYNC ∧ s.txBuf[1].toNat + 4 = s.txLen.toNat ∧
    xorAll (s.txBuf.toList.take s.txLen.toNat) = 0) ∧
  (s.txActive = false → s.txIdx = 0) ∧
  (s.stage = .idle → s.txActive = false)

/-- R23, R39, R235, R236, R303: at most one pulse, each callback pulse enabled, a report has a kind, and the frame latch
holds at most 21 bytes with zeros after them. -/
def OutputInv (s : State) : Prop :=
  (s.bcastEvt && s.txcEvt) = false ∧ (s.bcastEvt && s.diagValid) = false ∧ (s.txcEvt && s.diagValid) = false ∧
  (s.bcastEvt = true → s.cfgQ.bcastEn = true) ∧ (s.txcEvt = true → s.cfgQ.txcEn = true) ∧
  (s.diagValid = true → s.diagKind ≠ .none) ∧
  s.outLen.toNat ≤ FB_SIZE ∧ ∀ i, s.outLen.toNat ≤ i → i < FB_SIZE → s.outFrame[i]? = some 0x00

/-- R331: a reset synchroniser fills from the front, is empty while `rst_n = 0`, and a domain it has not released holds its
reset values (R45). -/
def ResetInv (s : State) : Prop :=
  (s.wRst.ff2 = true → s.wRst.ff1 = true) ∧ (s.rRst.ff2 = true → s.rRst.ff1 = true) ∧
  (s.ports.rstN = false → s.wRst.ff1 = false ∧ s.rRst.ff1 = false) ∧
  (s.wRst.ff2 = false → s.wbin = 0 ∧ s.wgray = 0 ∧ s.rq = .zero s.par ∧ s.mem = []) ∧
  (s.rRst.ff2 = false →
    s.rbin = 0 ∧ s.rgray = 0 ∧ s.wq = .zero s.par ∧ s.faIn = false ∧ s.faPos = 0 ∧ s.cfgQ = .zero ∧ s.stage = .idle ∧
    s.txActive = false ∧ s.txLen = 0 ∧ s.txIdx = 0 ∧ s.bcastEvt = false ∧ s.txcEvt = false ∧ s.diagValid = false ∧
    s.diagKind = .none ∧ s.outFrame = Vector.replicate 21 0 ∧ s.outLen = 0)

/-- The number of bytes the gray value `g` shows to the R domain: how far it is ahead of `rbin` (R46). -/
def seenAhead (s : State) (g : Ptr) : Nat := (s.par.dist s.rbin (bin g)).toNat

/-- The number of entries in use when the W domain takes the gray value `g` for the read pointer (R46). -/
def seenInUse (s : State) (g : Ptr) : Nat := (s.par.dist (bin g) s.wbin).toNat

/-- The entry `k` places after the read pointer (R139). -/
def entryAt (s : State) (k : Nat) : Byte := memRead s.mem ((s.rbin.toNat + k) % s.par.depth)

/-- R27, R30, R46, R140 with what makes them hold from step to step: pointers in range and in step with their gray
codes; along `wq` the R domain sees ever older write pointers, never one ahead of the true one; along `rq` the W domain
sees ever older read pointers, never one ahead of the true one; a value R13 may still draw is one update old. That every byte
popped was pushed (R75) is what `fifoContents` and R79 say. -/
def FifoInv (s : State) : Prop :=
  s.wbin.toNat < s.par.depth ∧ s.rbin.toNat < s.par.depth ∧
  s.wgray = gray s.wbin ∧ s.rgray = gray s.rbin ∧
  s.wq.stages.length + 1 = s.par.syncStages ∧ s.rq.stages.length + 1 = s.par.syncStages ∧
  (∀ g ∈ s.wq.toList, g.toNat < s.par.depth) ∧ (∀ g ∈ s.rq.toList, g.toNat < s.par.depth) ∧
  List.Pairwise (· ≥ ·) ((occ s).toNat :: s.wq.toList.map (seenAhead s)) ∧
  List.Pairwise (· ≤ ·) ((occ s).toNat :: s.rq.toList.map (seenInUse s)) ∧
  (s.wgChanged = true → s.par.inc (bin s.wgPrev) = s.wbin ∧ s.wgPrev.toNat < s.par.depth ∧
    ∀ g ∈ s.wq.toList, seenAhead s g < (occ s).toNat) ∧
  (s.rgChanged = true → s.par.inc (bin s.rgPrev) = s.rbin ∧ s.rgPrev.toNat < s.par.depth ∧
    ∀ g ∈ s.rq.toList, (occ s).toNat < seenInUse s g)

/-- The storage keeps its canonical form. -/
def MemInv (s : State) : Prop := memWf s.par s.mem = true

/-! ### The FIFO as a queue -/

/-- The bytes pushed and not yet popped, oldest first (R79, R302). -/
def fifoContents (s : State) : List Byte := (List.range (occ s).toNat).map (entryAt s)

/-! ### What a row reports -/

/-- The kind of the diagnostic report a row makes (R110, R222 to R234, R286, R301); every other row makes none. -/
def reportOf : Instr → Option DiagKind
  | .checksumError _ => some .checksumError
  | .eventMalformed _ => some .malformedEvent
  | .functionResponse _ => some .functionResponse
  | .eventSearchTimeout _ => some .searchTimeout
  | .eventOther _ => some .unknownEvent
  | .otherMessage _ => some .unknownMessage
  | .hostReservedAB _ => some .badHostRequest
  | .hostReservedCF _ => some .badHostRequest
  | _ => none

/-- The kind of the report that the next event's edge makes: its frame row's or its host row's (R236). -/
def reportOfEdge (s : State) : Option DiagKind := ((frameRow s).bind reportOf).or ((hostPortRow s).bind reportOf)

/-- The frame that the next event's edge latches: its frame row's, if that row reports or delivers it (R235). -/
def latchedByEdge (s : State) : Option (List Byte) :=
  match frameRow s with
  | some (.checksumError F) => some F
  | some (.eventMalformed F) => some F
  | some (.functionResponse F) => some F
  | some (.eventSearchTimeout F) => some F
  | some (.eventOther F) => some F
  | some (.broadcast F) => some F
  | some (.otherMessage F) => some F
  | _ => none

/-! ### The assembler fed with bytes -/

/-- The assembler's effect on popped bytes, one after the other (R160); none where R160 has no case. -/
def feed : List Byte → State → Option State
  | [], s => some s
  | b :: bs, s =>
    match assemble b s with
    | some t => feed bs t
    | none => none

end Sys2Proof.Machine
end

