-- ==== Sys2Proof/Certificates/Slice0/Obligations.lean ====
section
/-! DEFINITION. The statements for the provers, in the order of OBLIGATIONS.json. Each docstring names the rules of spec/. -/

open Sys2Proof Sys2Proof.Machine

/-! ### Encodings -/

/-- R113, R98: decoding the word of a well-formed operation gives the operation back, for every operand and parameter. -/
def Obligations.DecodeInvertsEncode : Prop :=
  ∀ (p : Params) (i : Instr), wellFormed i = true → decode p (encode p i) = .ok i

/-- R113 against R221: the first table row, in increasing priority, whose match, mask and condition hold is the class the
dispatcher takes, and a frame decodes exactly when the assembler could have completed it (R90, R101, R107). -/
def Obligations.FrameTableGivesTheDispatchClass : Prop :=
  ∀ (p : Params) (sig : FrameSignals) (F : List Byte) (i : Instr),
    decode p (.frame sig F) = .ok i ↔ candidateFrame F = true ∧ i = (frameClass sig F).row F

/-- R191: the bytes of `build(id, P)`, the last being the XOR of all before it. -/
def Obligations.BuiltFrameBytes : Prop :=
  ∀ (id : Byte) (P : List Byte), P.length ≤ MAX_PAYLOAD →
    (build id P).length = P.length + 4 ∧
    frameByte (build id P) 0 = 0xA4 ∧ frameByte (build id P) 1 = BitVec.ofNat 8 P.length ∧ frameByte (build id P) 2 = id ∧
    (∀ i, i < P.length → (build id P)[3 + i]? = P[i]?) ∧
    frameByte (build id P) (P.length + 3) = xorAll ((build id P).take (P.length + 3)) ∧
    checksumOk (build id P) = true

/-- Words written out from the spec's encodings decode to their rows (30_encoding.md; the ACK and S1 frames of
95_test_vectors.md; the frames of R198 and R199 with their checksums; R103; R160; R114). The signals beside a frame or a byte
are the model's encoded form (log 10); the port words are signal values that a state can show (R43). -/
def Obligations.SampleWordsDecode : Prop :=
  decode Params.default (.frame ⟨true, false, false⟩ [0xA4, 0x03, 0x40, 0x00, 0x01, 0x00, 0xE6])
    = .ok (.eventNoErrorAck [0xA4, 0x03, 0x40, 0x00, 0x01, 0x00, 0xE6]) ∧
  decode Params.default (.frame ⟨false, true, true⟩ [0xA4, 0x09, 0x4E, 0x00, 0x01, 0x00, 0x2A, 0x00, 0x2B, 0x00, 0x2C, 0x00, 0xCF])
    = .ok (.broadcast [0xA4, 0x09, 0x4E, 0x00, 0x01, 0x00, 0x2A, 0x00, 0x2B, 0x00, 0x2C, 0x00, 0xCF]) ∧
  decode Params.default (.txFrame .kAssign [0xA4, 0x03, 0x42, 0x00, 0x10, 0x00, 0xF5]) = .ok (.assignChannel 0x10 0x00) ∧
  decode Params.default (.txFrame .kChid [0xA4, 0x05, 0x51, 0x00, 0x34, 0x12, 0x00, 0x00, 0xD6]) = .ok (.setChannelId 0x1234 0x00 0x00) ∧
  decode Params.default (.hostReq 0x8) = .ok .hostKBcast ∧
  decode Params.default (.asmByte ⟨true, 7, 9⟩ 0xA4) = .ok .resync ∧
  decode Params.default (.wPort 0b11) = .ok .pushDrop ∧
  decode Params.default (.rPort 0b0000100) = .ok .pop

/-! ### Which row an edge runs -/

/-- R282 and R43: the rows of the table, read at an R step, are the five priorities of the rule in their order;
`host_req_ready` is exactly R43's conjunction (so never 1 in a frame, R344, or before Configured, R345), and so a host request
and a pop can never compete. Which row of R_IDLE is taken where there is neither a request nor readiness is the model's
choice (DESIGN CHOICE, log 9). -/
def Obligations.ReadStepFollowsThePriority : Prop :=
  (∀ (s : State) (d : Draw) (rest : List Stimulus), RStepAt s d rest →
    rRow s = some
      (if s.txActive then (if s.ports.txReady then .txByte else .txStall)
       else if s.stage = .idle then (if s.ports.host.start then .start else .rIdleInIdle)
       else if s.ports.host.reqValid && hostReqReady s then .hostReq
       else if !rdEmpty s then .pop
       else if s.ports.host.reqValid then .rIdleNotReady else .rIdleNoRequest)) ∧
  ∀ s : State,
    (hostReqReady s = true ↔ s.stage = .configured ∧ s.txActive = false ∧ rdEmpty s = true ∧ s.faIn = false) ∧
    (hostReqReady s = true → rdEmpty s = true)

/-- R114, R288: which row a W step runs. -/
def Obligations.WriteStepFollowsTheEnables : Prop :=
  ∀ (s : State) (d : Draw) (rest : List Stimulus), WStepAt s d rest →
    wRow s = some (if s.ports.wrEn then (if wrFull s then .pushDrop else .push) else .wIdle)

/-- A step runs the decoded instruction: at a clock edge of a domain out of reset, the step is `exec` of the row that the
domain's signals decode to (R113, R114, R280, R288). -/
def Obligations.StepRunsTheDecodedRow : Prop :=
  ∀ (s : State) (d : Draw) (rest : List Stimulus),
    (WStepAt s d rest → ∃ i, decode s.par (.wPort (wSignals s)) = .ok i ∧ step s = exec i s) ∧
    (RStepAt s d rest → ∃ i, decode s.par (.rPort (rSignals s)) = .ok i ∧ step s = exec i s)

/-- R144, R220: a clock edge is never refused, in any state. -/
def Obligations.ClockEdgesAreNeverRefused : Prop :=
  ∀ (s : State) (r : Refusal), ClockEdge s → step s ≠ .refused r

/-! ### The ring buffer -/

/-- R131: PUSH. -/
def Obligations.PushStoresTheByte : Prop :=
  ∀ (s : State) (d : Draw) (rest : List Stimulus),
    WStepAt s d rest → s.ports.wrEn = true → wrFull s = false → s.wbin.toNat < s.par.depth →
    ∃ t, exec .push s = .next t ∧
      t = { afterWEdge d rest s with
              mem := memWrite s.mem s.wbin.toNat s.ports.wrData
              wbin := s.par.inc s.wbin
              wgray := gray (s.par.inc s.wbin)
              wgPrev := s.wgray
              wgChanged := true } ∧
      ∀ a, memRead t.mem a = if a = s.wbin.toNat then s.ports.wrData else memRead s.mem a

/-- R132, R138: PUSH_DROP and W_IDLE change nothing but the synchroniser. -/
def Obligations.DroppedPushAndIdleEdgeOnlyShift : Prop :=
  ∀ (s : State) (d : Draw) (rest : List Stimulus), WStepAt s d rest →
    (s.ports.wrEn = true → wrFull s = true → exec .pushDrop s = .next (afterWEdge d rest s)) ∧
    (s.ports.wrEn = false → exec .wIdle s = .next (afterWEdge d rest s))

/-- R135, R160: POP hands the byte to its assembler row in the same step and advances the read pointer; the write side, the
storage, the ports and the configuration latch are unchanged. -/
def Obligations.PopRunsTheAssemblerRow : Prop :=
  ∀ (s : State) (d : Draw) (rest : List Stimulus) (b : Byte) (c : AsmCase),
    RStepAt s d rest → s.txActive = false → s.stage ≠ .idle → rdEmpty s = false →
    s.rbin.toNat < s.par.depth → memRead s.mem s.rbin.toNat = b → asmCase (asmSignals s) b = some c →
    ∃ u t, exec (c.row b) (clearPulses s) = .next u ∧ exec .pop s = .next t ∧
      t = { u with
              rbin := s.par.inc s.rbin
              rgray := gray (s.par.inc s.rbin)
              rgPrev := s.rgray
              rgChanged := true
              wq := s.wq.shift (sample s.wgChanged d s.wgray s.wgPrev)
              wgChanged := false
              stimulus := rest } ∧
      t.wbin = s.wbin ∧ t.wgray = s.wgray ∧ t.rq = s.rq ∧ (∀ a, memRead t.mem a = memRead s.mem a) ∧
      t.ports = s.ports ∧ t.cfgQ = s.cfgQ ∧ t.par = s.par

/-- R13, R136, R137: a sample is the pointer's value where it has not changed, and where it has, each of the current and the
previous value by the draw (U6: both are admitted); every step of a domain shifts its synchroniser by one, the first
flip-flop taking the sample, and leaves the other domain's synchroniser alone. -/
def Obligations.SynchronisersShiftAtEveryStep : Prop :=
  (∀ (d : Draw) (g gPrev : Ptr), sample false d g gPrev = g) ∧
  (∀ g gPrev : Ptr, sample true .current g gPrev = g ∧ sample true .previous g gPrev = gPrev) ∧
  ∀ (s t : State) (d : Draw) (rest : List Stimulus), step s = .next t →
    (WStepAt s d rest → t.rq.toList = sample s.rgChanged d s.rgray s.rgPrev :: s.rq.toList.dropLast ∧ t.wq = s.wq) ∧
    (RStepAt s d rest → t.wq.toList = sample s.wgChanged d s.wgray s.wgPrev :: s.wq.toList.dropLast ∧ t.rq = s.rq)

/-- R141, R340: a synchroniser is a delay line: after the samples `gs`, its flip-flops hold the latest S of them and of
its old values, the newest first. -/
def Obligations.SynchroniserIsADelayLine : Prop :=
  ∀ (q : Sync) (gs : List Ptr),
    (gs.foldl Sync.shift q).toList = (gs.reverse ++ q.toList).take (q.stages.length + 1)

/-- R11, R142: `bin` inverts `gray`, and the gray codes of neighbours differ in one bit, the wrap included, for every AW. -/
def Obligations.GrayCodeChangesOneBit : Prop :=
  ∀ (p : Params) (b : Ptr), b.toNat < p.depth →
    bin (gray b) = b ∧ (gray b).toNat < p.depth ∧ (p.inc b).toNat = (b.toNat + 1) % p.depth ∧
    ∃ k, k < p.aw ∧ gray b ^^^ gray (p.inc b) = (1 : Ptr) <<< k

/-- R46, R133, R134: each domain's bound on the occupancy, and the two flags as facts about those bounds. -/
def Obligations.FlagsAndOccupancyBounds : Prop :=
  ∀ s : State, FifoInv s →
    occR s ≤ occ s ∧ occ s ≤ occW s ∧ (occ s).toNat ≤ s.par.capacity ∧
    (rdEmpty s = true ↔ s.rbin = bin s.wq.last) ∧ (rdEmpty s = true ↔ occR s = 0) ∧
    (wrFull s = true ↔ (occW s).toNat = s.par.capacity)

/-! ### The assembler -/

/-- R161, R162: hunting. -/
def Obligations.HuntingRows : Prop :=
  ∀ s : State, popAllowed s = true → s.faIn = false →
    (∀ b : Byte, b ≠ 0xA4 → exec (.huntDiscard b) s = .next s) ∧
    exec .huntSync s = .next { s with faIn := true, faBuf := s.faBuf.set 0 0xA4, faPos := 1 }

/-- R163: a sync inside a frame starts a new candidate at any position. -/
def Obligations.ResyncAtAnyPosition : Prop :=
  ∀ s : State, popAllowed s = true → s.faIn = true →
    exec .resync s = .next { s with faBuf := s.faBuf.set 0 0xA4, faPos := 1 }

/-- R164, R165: the length byte. -/
def Obligations.LengthRows : Prop :=
  ∀ (s : State) (b : Byte), popAllowed s = true → s.faIn = true → s.faPos = 1 → b ≠ 0xA4 →
    (b.toNat ≤ 17 → exec (.length b) s = .next { s with faBuf := s.faBuf.set 1 b, faPos := 2 }) ∧
    (17 < b.toNat → exec (.lengthInvalid b) s = .next { s with faIn := false, faPos := 0 })

/-- R166, R167: the message id and the payload. The position is at most 20 by R33. -/
def Obligations.MessageIdAndPayloadRows : Prop :=
  ∀ (s : State) (b : Byte), popAllowed s = true → s.faIn = true → b ≠ 0xA4 →
    (s.faPos = 2 → exec (.messageId b) s = .next { s with faBuf := s.faBuf.set 2 b, faPos := 3 }) ∧
    (3 ≤ s.faPos.toNat → s.faPos.toNat < s.faBuf[1].toNat + 3 → s.faPos.toNat ≤ 20 →
      exec (.payloadByte b) s = .next { s with faBuf := s.faBuf.setIfInBounds s.faPos.toNat b, faPos := s.faPos + 1 })

/-- R168, R170, R171: the checksum byte stores itself, ends the candidate and runs exactly one frame row on it: the
dispatcher's class where the XOR of the bytes before it equals it, CHECKSUM_ERROR where it does not. -/
def Obligations.ChecksumByteRunsTheFrameRow : Prop :=
  ∀ (s : State) (b : Byte) (F : List Byte) (s' : State),
    popAllowed s = true → s.faIn = true → b ≠ 0xA4 → 3 ≤ s.faPos.toNat → s.faPos.toNat ≤ 20 →
    s.faPos.toNat = s.faBuf[1].toNat + 3 →
    F = s.faBuf.toList.take s.faPos.toNat ++ [b] →
    s' = { s with faBuf := s.faBuf.setIfInBounds s.faPos.toNat b, faIn := false, faPos := 0 } →
    ∃ t, exec (.checksumByte b) s = .next t ∧
      (xorAll (s.faBuf.toList.take s.faPos.toNat) = b → exec ((classify (frameSignals s) F).row F) s' = .next t) ∧
      (xorAll (s.faBuf.toList.take s.faPos.toNat) ≠ b → exec (.checksumError F) s' = .next t)

/-- R160, R174, R175: a frame the assembler can complete, after noise without a sync, reaches the dispatcher exactly once
and unchanged, whatever was in the frame buffer; with a wrong checksum the same bytes give the checksum-error report. The
state before the frame's last byte is the one before the noise but for the assembler's own registers. -/
def Obligations.EmbeddedFrameIsDispatchedOnce : Prop :=
  ∀ (s : State) (noise F : List Byte),
    s.faIn = false → (∀ b ∈ noise, b ≠ 0xA4) → candidateFrame F = true →
    ∃ buf : Vector Byte 21, (∀ i, i < F.length → buf[i]? = F[i]?) ∧
      feed (noise ++ F) s = some (dispatch F { s with faBuf := buf, faIn := false, faPos := 0 })

/-! ### The dispatcher -/

/-- R222, R223, R230, R233, R234: the rows that latch the frame and report it, and change nothing else. -/
def Obligations.ReportingRows : Prop :=
  ∀ (s : State) (F : List Byte), popAllowed s = true → frameShape F = true →
    (checksumOk F = false →
      exec (.checksumError F) s = .next { withLatchedFrame F s with diagValid := true, diagKind := .checksumError }) ∧
    (checksumOk F = true → frameByte F 2 = 0x40 → (frameByte F 1).toNat < 3 →
      exec (.eventMalformed F) s = .next { withLatchedFrame F s with diagValid := true, diagKind := .malformedEvent }) ∧
    (checksumOk F = true → frameByte F 2 = 0x40 → 3 ≤ (frameByte F 1).toNat → frameByte F 4 ≠ 0x01 →
      exec (.functionResponse F) s = .next { withLatchedFrame F s with diagValid := true, diagKind := .functionResponse }) ∧
    (checksumOk F = true → frameByte F 2 = 0x40 → 3 ≤ (frameByte F 1).toNat → frameByte F 4 = 0x01 → 4 ≤ (frameByte F 5).toNat →
      exec (.eventOther F) s = .next { withLatchedFrame F s with diagValid := true, diagKind := .unknownEvent }) ∧
    (checksumOk F = true → frameByte F 2 ≠ 0x40 → frameByte F 2 ≠ 0x4E →
      exec (.otherMessage F) s = .next { withLatchedFrame F s with diagValid := true, diagKind := .unknownMessage })

/-- R225, R227, R229, R232: the rows that do nothing. -/
def Obligations.SilentRows : Prop :=
  ∀ (s : State) (F : List Byte), popAllowed s = true → frameShape F = true → checksumOk F = true →
    (frameByte F 2 = 0x40 → 3 ≤ (frameByte F 1).toNat → frameByte F 4 = 0x01 → frameByte F 5 = 0x00 → waiting s = false →
      exec (.eventNoErrorIgnored F) s = .next s) ∧
    (frameByte F 2 = 0x40 → 3 ≤ (frameByte F 1).toNat → frameByte F 4 = 0x01 → frameByte F 5 = 0x02 →
      exec (.eventRxFail F) s = .next s) ∧
    (frameByte F 2 = 0x40 → 3 ≤ (frameByte F 1).toNat → frameByte F 4 = 0x01 → frameByte F 5 = 0x03 → s.cfgQ.txcEn = false →
      exec (.eventTxCompleteNoCallback F) s = .next s) ∧
    (frameByte F 2 = 0x4E → s.cfgQ.bcastEn = false → exec (.broadcastNoCallback F) s = .next s)

/-- R228, R231: the callbacks. -/
def Obligations.CallbackRows : Prop :=
  ∀ (s : State) (F : List Byte), popAllowed s = true → frameShape F = true → checksumOk F = true →
    (frameByte F 2 = 0x40 → 3 ≤ (frameByte F 1).toNat → frameByte F 4 = 0x01 → frameByte F 5 = 0x03 → s.cfgQ.txcEn = true →
      exec (.eventTxComplete F) s = .next { s with txcEvt := true }) ∧
    (frameByte F 2 = 0x4E → s.cfgQ.bcastEn = true →
      exec (.broadcast F) s = .next { withLatchedFrame F s with bcastEvt := true })

/-- R224, R254, R255, R256: the acknowledgment advances the stage and loads the next stage's command in the same step. -/
def Obligations.AcknowledgmentAdvancesTheStage : Prop :=
  ∀ (s : State) (F : List Byte), waiting s = true → frameShape F = true → checksumOk F = true →
    frameByte F 2 = 0x40 → 3 ≤ (frameByte F 1).toNat → frameByte F 4 = 0x01 → frameByte F 5 = 0x00 →
    ∃ t, exec (.eventNoErrorAck F) s = .next t ∧
      (s.stage = .assignChannel →
        exec (.setChannelId s.cfgQ.devAddr s.par.deviceType s.par.transType) { s with stage := .setChannelId } = .next t) ∧
      (s.stage = .setChannelId → exec (.setPeriod s.cfgQ.period) { s with stage := .setPeriod } = .next t) ∧
      (s.stage = .setPeriod → exec (.setFrequency s.cfgQ.freq) { s with stage := .setFrequency } = .next t) ∧
      (s.stage = .setFrequency → exec .openChannel { s with stage := .openChannel } = .next t) ∧
      (s.stage = .openChannel → s.cfgQ.role = .slave →
        exec (.addressAnnounce s.cfgQ.devAddr) { s with stage := .addressAnnounce } = .next t) ∧
      (s.stage = .openChannel → s.cfgQ.role = .master → t = { s with stage := .configured }) ∧
      (s.stage = .addressAnnounce → t = { s with stage := .configured })

/-- R226, R258: a search timeout, in every stage in which bytes are popped, latches and reports the frame and starts the
handshake over; the configuration latch, the FIFO and the assembler are untouched. -/
def Obligations.SearchTimeoutRestarts : Prop :=
  ∀ (s : State) (F : List Byte), popAllowed s = true → frameShape F = true → checksumOk F = true →
    frameByte F 2 = 0x40 → 3 ≤ (frameByte F 1).toNat → frameByte F 4 = 0x01 → frameByte F 5 = 0x01 →
    ∃ t, exec (.eventSearchTimeout F) s = .next t ∧
      exec (.assignChannel (if s.cfgQ.role = .slave then s.par.chtypeSlave else s.par.chtypeMaster) s.par.networkNumber)
        { withLatchedFrame F s with diagValid := true, diagKind := .searchTimeout, stage := .assignChannel } = .next t

/-! ### The encoder -/

/-- R196 to R203: the eight command rows whose frames have at most nine bytes load exactly these bytes, the rest of the
buffer and of the state unchanged. -/
def Obligations.CommandRowsLoadTheirFrames : Prop :=
  ∀ s : State, s.txActive = false →
    exec .systemReset s = .next (withLoadedFrame [0xA4, 0x01, 0x4A, 0x00, 0xEF] s) ∧
    (∀ v : Byte, exec (.capabilityRequest v) s
      = .next (withLoadedFrame [0xA4, 0x02, s.par.msgCapReq, 0x00, v, 0xA6 ^^^ s.par.msgCapReq ^^^ v] s)) ∧
    (∀ ty net : Byte, exec (.assignChannel ty net) s
      = .next (withLoadedFrame [0xA4, 0x03, 0x42, 0x00, ty, net, 0xE5 ^^^ ty ^^^ net] s)) ∧
    (∀ (v : Half) (dty tty : Byte), exec (.setChannelId v dty tty) s
      = .next (withLoadedFrame [0xA4, 0x05, 0x51, 0x00, loByte v, hiByte v, dty, tty, 0xF0 ^^^ loByte v ^^^ hiByte v ^^^ dty ^^^ tty] s)) ∧
    (∀ v : Half, exec (.setPeriod v) s
      = .next (withLoadedFrame [0xA4, 0x03, 0x43, 0x00, loByte v, hiByte v, 0xE4 ^^^ loByte v ^^^ hiByte v] s)) ∧
    (∀ v : Byte, exec (.setFrequency v) s = .next (withLoadedFrame [0xA4, 0x02, 0x45, 0x00, v, 0xE3 ^^^ v] s)) ∧
    (∀ v : Byte, exec (.setSearchTimeout v) s = .next (withLoadedFrame [0xA4, 0x02, 0x44, 0x00, v, 0xE2 ^^^ v] s)) ∧
    exec .openChannel s = .next (withLoadedFrame [0xA4, 0x01, 0x4B, 0x00, 0xEE] s)

/-- R204, R205, R206: the three data rows. -/
def Obligations.DataRowsLoadTheirFrames : Prop :=
  ∀ (s : State) (a : Half) (dat : Data6), s.txActive = false →
    exec (.broadcastData a dat) s
      = .next (withLoadedFrame (build 0x4E [0x00, loByte a, hiByte a, Data6.byte dat 0, Data6.byte dat 1, Data6.byte dat 2,
          Data6.byte dat 3, Data6.byte dat 4, Data6.byte dat 5]) s) ∧
    exec (.acknowledgedData a dat) s
      = .next (withLoadedFrame (build 0x4F [0x00, loByte a, hiByte a, Data6.byte dat 0, Data6.byte dat 1, Data6.byte dat 2,
          Data6.byte dat 3, Data6.byte dat 4, Data6.byte dat 5]) s) ∧
    exec (.addressAnnounce a) s
      = .next (withLoadedFrame (build s.par.announceId.byte [0x00, loByte a, hiByte a, 0xFF, 0xFF, 0xFF, 0xFF, 0xFF, 0xFF]) s)

/-- What an outbound row loads is what the encoder of the decoder's file writes for it: the two were written apart from
R191 and R196 to R206. -/
def Obligations.LoadedFramesAreTheEncodings : Prop :=
  ∀ (s t : State) (i : Instr) (k : TxKind) (T : List Byte),
    encode s.par i = .txFrame k T → exec i s = .next t → t = withLoadedFrame T s

/-- R192: TX_BYTE hands over `tx_buf[tx_idx]` and moves on, or ends the frame. -/
def Obligations.TxByteHandsOverOneByte : Prop :=
  ∀ (s : State) (d : Draw) (rest : List Stimulus),
    RStepAt s d rest → s.txActive = true → s.ports.txReady = true → s.txIdx.toNat < 13 →
    acceptedByte s = s.txBuf[s.txIdx.toNat]? ∧
    exec .txByte s = .next
      (if s.txIdx + 1 = s.txLen then { afterREdge d rest s with txActive := false, txIdx := 0 }
       else { afterREdge d rest s with txIdx := s.txIdx + 1 })

/-- R193: TX_STALL changes nothing of the transmission; the byte offered stays. -/
def Obligations.TxStallHolds : Prop :=
  ∀ (s : State) (d : Draw) (rest : List Stimulus),
    RStepAt s d rest → s.txActive = true → s.ports.txReady = false →
    ∃ t, exec .txStall s = .next t ∧ t = afterREdge d rest s ∧ acceptedByte s = none ∧ txData t = txData s

/-! ### The configurator and the host port -/

/-- R252: START latches the configuration inputs, enters AssignChannel and loads the assign-channel frame for the role
sampled at this edge; at any other stage `start` is ignored. -/
def Obligations.StartLatchesTheConfiguration : Prop :=
  ∀ (s : State) (d : Draw) (rest : List Stimulus), RStepAt s d rest →
    (s.txActive = false → s.stage = .idle → s.ports.host.start = true →
      ∃ t, exec .start s = .next t ∧
        exec (.assignChannel (if s.ports.host.cfg.role = .slave then s.par.chtypeSlave else s.par.chtypeMaster) s.par.networkNumber)
          { afterREdge d rest s with cfgQ := s.ports.host.cfg, stage := .assignChannel } = .next t) ∧
    (s.stage ≠ .idle → rRow s ≠ some .start)

/-- R145, R260: the three rows of R_IDLE change nothing but the synchroniser and the event pulses. -/
def Obligations.IdleReadEdgesChangeNothing : Prop :=
  ∀ (s : State) (d : Draw) (rest : List Stimulus), RStepAt s d rest → s.txActive = false →
    (s.stage = .idle → s.ports.host.start = false → exec .rIdleInIdle s = .next (afterREdge d rest s)) ∧
    (s.stage ≠ .idle → rdEmpty s = true → s.ports.host.reqValid = false →
      exec .rIdleNoRequest s = .next (afterREdge d rest s)) ∧
    (s.stage ≠ .idle → rdEmpty s = true → s.ports.host.reqValid = true → hostReqReady s = false →
      exec .rIdleNotReady s = .next (afterREdge d rest s))

/-- R103, R104, R196 to R205: each host kind does what its command's outbound row does, with the arguments from the port
or from the latched configuration. -/
def Obligations.HostKindsLoadTheirCommands : Prop :=
  ∀ s : State, hostReqReady s = true → s.ports.host.reqValid = true →
    (s.ports.host.reqKind = 0x0 → ∃ t, exec .hostKReset s = .next t ∧ exec .systemReset s = .next t) ∧
    (s.ports.host.reqKind = 0x1 → ∃ t, exec .hostKCapreq s = .next t ∧
      exec (.capabilityRequest s.ports.host.reqArg) s = .next t) ∧
    (s.ports.host.reqKind = 0x2 → ∃ t, exec .hostKAssign s = .next t ∧
      exec (.assignChannel (if s.cfgQ.role = .slave then s.par.chtypeSlave else s.par.chtypeMaster) s.par.networkNumber) s = .next t) ∧
    (s.ports.host.reqKind = 0x3 → ∃ t, exec .hostKChid s = .next t ∧
      exec (.setChannelId s.cfgQ.devAddr s.par.deviceType s.par.transType) s = .next t) ∧
    (s.ports.host.reqKind = 0x4 → ∃ t, exec .hostKPeriod s = .next t ∧ exec (.setPeriod s.cfgQ.period) s = .next t) ∧
    (s.ports.host.reqKind = 0x5 → ∃ t, exec .hostKFreq s = .next t ∧ exec (.setFrequency s.cfgQ.freq) s = .next t) ∧
    (s.ports.host.reqKind = 0x6 → ∃ t, exec .hostKStimeout s = .next t ∧
      exec (.setSearchTimeout s.ports.host.reqArg) s = .next t) ∧
    (s.ports.host.reqKind = 0x7 → ∃ t, exec .hostKOpen s = .next t ∧ exec .openChannel s = .next t) ∧
    (s.ports.host.reqKind = 0x8 → ∃ t, exec .hostKBcast s = .next t ∧
      exec (.broadcastData s.ports.host.reqAddr s.ports.host.reqData) s = .next t) ∧
    (s.ports.host.reqKind = 0x9 → ∃ t, exec .hostKAckdata s = .next t ∧
      exec (.acknowledgedData s.ports.host.reqAddr s.ports.host.reqData) s = .next t)

/-- R106, R286: a reserved kind sends nothing and reports BAD_HOST_REQUEST; the frame latch is unchanged (R284). -/
def Obligations.ReservedKindsReport : Prop :=
  ∀ s : State, hostReqReady s = true → s.ports.host.reqValid = true →
    (∀ low : BitVec 1, s.ports.host.reqKind = 0b101#3 ++ low →
      exec (.hostReservedAB low) s = .next { s with diagValid := true, diagKind := .badHostRequest }) ∧
    (∀ low : BitVec 2, s.ports.host.reqKind = 0b11#2 ++ low →
      exec (.hostReservedCF low) s = .next { s with diagValid := true, diagKind := .badHostRequest })

/-- R285, R287: an R step at which the request is valid and ready runs exactly the row of its kind; the stage, the
configuration latch, the FIFO and the assembler are unchanged. -/
def Obligations.HostRequestRunsTheKindsRow : Prop :=
  ∀ (s : State) (d : Draw) (rest : List Stimulus),
    RStepAt s d rest → hostReqReady s = true → s.ports.host.reqValid = true →
    ∃ u t, exec (hostRow s.ports.host.reqKind) (clearPulses s) = .next u ∧ exec .hostReq s = .next t ∧
      t = { u with
              wq := s.wq.shift (sample s.wgChanged d s.wgray s.wgPrev)
              wgChanged := false
              stimulus := rest } ∧
      t.stage = s.stage ∧ t.cfgQ = s.cfgQ ∧ t.rbin = s.rbin ∧ t.rgray = s.rgray ∧ t.wbin = s.wbin ∧ t.wgray = s.wgray ∧
      (∀ a, memRead t.mem a = memRead s.mem a) ∧ t.faIn = s.faIn ∧ t.faPos = s.faPos ∧ t.faBuf = s.faBuf ∧
      t.outFrame = s.outFrame ∧ t.outLen = s.outLen

/-! ### Reset and the external agents -/

/-- R45, R334: the reset values, for every choice of the parameters. The registers R45 leaves unspecified are not named. -/
def Obligations.ResetValues : Prop :=
  State.reset = State.resetOf Params.default ∧
  ∀ p : Params,
    (State.resetOf p).wbin = 0 ∧ (State.resetOf p).wgray = 0 ∧
    (State.resetOf p).rq.toList = List.replicate p.syncStages 0 ∧
    (State.resetOf p).rbin = 0 ∧ (State.resetOf p).rgray = 0 ∧
    (State.resetOf p).wq.toList = List.replicate p.syncStages 0 ∧
    (State.resetOf p).faIn = false ∧ (State.resetOf p).faPos = 0 ∧
    (State.resetOf p).cfgQ = ⟨.master, 0, 0, 0, false, false⟩ ∧
    (State.resetOf p).stage = .idle ∧ (State.resetOf p).txActive = false ∧
    (State.resetOf p).txIdx = 0 ∧ (State.resetOf p).txLen = 0 ∧
    (State.resetOf p).bcastEvt = false ∧ (State.resetOf p).txcEvt = false ∧ (State.resetOf p).diagValid = false ∧
    (State.resetOf p).diagKind = .none ∧ (State.resetOf p).outFrame = Vector.replicate 21 0 ∧ (State.resetOf p).outLen = 0 ∧
    rdEmpty (State.resetOf p) = true ∧ occ (State.resetOf p) = 0

/-- R23, R42, R73, R109, R110: what the output ports carry: `tx_data` is the byte at `tx_idx` while transmitting and 0x00
else; `out_frame` has frame byte i at bits 8i+7:8i; the codes of `stage` and `diag_kind`. -/
def Obligations.OutputPortsCarryTheRegisters : Prop :=
  (∀ s : State,
    (outputs s).txValid = s.txActive ∧
    (s.txActive = false → (outputs s).txData = some 0x00) ∧
    (s.txActive = true → s.txIdx.toNat < 13 → (outputs s).txData = some (s.txBuf.toList.getD s.txIdx.toNat 0)) ∧
    (outputs s).hostReqReady = hostReqReady s ∧ (outputs s).bcastEvt = s.bcastEvt ∧ (outputs s).txcEvt = s.txcEvt ∧
    (outputs s).diagValid = s.diagValid ∧ (outputs s).outLen = s.outLen ∧
    (∀ (i : Nat) (h : i < 21), (outputs s).outFrame.extractLsb' (8 * i) 8 = s.outFrame[i]) ∧
    (outputs s).stage = s.stage.code ∧ (outputs s).diagKind = s.diagKind.code) ∧
  Stage.code .idle = 0 ∧ Stage.code .assignChannel = 1 ∧ Stage.code .setChannelId = 2 ∧ Stage.code .setPeriod = 3 ∧
  Stage.code .setFrequency = 4 ∧ Stage.code .openChannel = 5 ∧ Stage.code .addressAnnounce = 6 ∧ Stage.code .configured = 7 ∧
  DiagKind.code .none = 0 ∧ DiagKind.code .checksumError = 1 ∧ DiagKind.code .unknownEvent = 2 ∧
  DiagKind.code .functionResponse = 3 ∧ DiagKind.code .unknownMessage = 4 ∧ DiagKind.code .searchTimeout = 5 ∧
  DiagKind.code .malformedEvent = 6 ∧ DiagKind.code .badHostRequest = 7

/-- R330, R332: asserting `rst_n`, at any time, gives every register of both domains its reset value, whatever the state
was, and takes the outputs that R330 names to 0. The unspecified registers take the model's values (log 5, log 6). -/
def Obligations.ResetAssertionResetsBothDomains : Prop :=
  ∀ (s : State) (rest : List Stimulus), s.stimulus = .reset false :: rest →
    ∃ t, step s = .next t ∧
      t = { State.resetOf s.par with
              ports := { s.ports with rstN := false }
              wRst := ⟨false, false⟩
              rRst := ⟨false, false⟩
              stimulus := rest } ∧
      (outputs t).txValid = false ∧ (outputs t).hostReqReady = false ∧
      (outputs t).bcastEvt = false ∧ (outputs t).txcEvt = false ∧ (outputs t).diagValid = false

/-- R330, R331: a clock edge of a domain in reset is no step of it: only its reset synchroniser moves, two edges after the
release of `rst_n` the domain is out of reset (the model's reading of R331, log 8). -/
def Obligations.EdgesInResetOnlyClockTheRelease : Prop :=
  ∀ (s : State) (d : Draw) (rest : List Stimulus),
    (s.stimulus = .wclk d :: rest → (s.ports.rstN = false ∨ s.wRst.ff2 = false) →
      step s = .next { s with wRst := if s.ports.rstN then ⟨true, s.wRst.ff1⟩ else ⟨false, false⟩, rgChanged := false, stimulus := rest }) ∧
    (s.stimulus = .rclk d :: rest → (s.ports.rstN = false ∨ s.rRst.ff2 = false) →
      step s = .next { s with rRst := if s.ports.rstN then ⟨true, s.rRst.ff1⟩ else ⟨false, false⟩, wgChanged := false, stimulus := rest })

/-- R17, R289, R331: the external agents change input ports and nothing else; with no event nothing changes (R312). -/
def Obligations.AgentsOnlyDriveTheirPorts : Prop :=
  ∀ (s : State) (rest : List Stimulus),
    (s.stimulus = [] → step s = .next s) ∧
    (∀ en b, s.stimulus = .producer en b :: rest →
      step s = .next { s with ports := { s.ports with wrEn := en, wrData := b }, stimulus := rest }) ∧
    (∀ r, s.stimulus = .transport r :: rest →
      step s = .next { s with ports := { s.ports with txReady := r }, stimulus := rest }) ∧
    (∀ h, s.stimulus = .host h :: rest → step s = .next { s with ports := { s.ports with host := h }, stimulus := rest }) ∧
    (s.stimulus = .reset true :: rest →
      step s = .next { s with ports := { s.ports with rstN := true }, stimulus := rest })

/-- R143, R333 (and U1, U7, U8, U9): what the spec tells a model to refuse is refused, and nothing else is. -/
def Obligations.ExactlyTheForbiddenStimuliAreRefused : Prop :=
  ∀ (s : State) (r : Refusal),
    step s = .refused r ↔ ∃ v rest, s.stimulus = .outside v :: rest ∧ r = .outsideDomain v

/-! ### Invariants -/

/-- The state after reset meets every invariant, for every choice of the parameters and for any contents of the arrays that
R45 leaves unspecified (U5: "must let every claim hold for every draw"); the model's own contents (logs 5, 6) are one case. -/
def Obligations.ResetMeetsTheInvariants : Prop :=
  ∀ (p : Params) (m : List Host.Cell) (fb : Vector Byte 21) (tb : Vector Byte 13) (s : State),
    memWf p m = true → s = { State.resetOf p with mem := m, faBuf := fb, txBuf := tb } →
    FifoInv s ∧ MemInv s ∧ AssemblerInv s ∧ TransmitInv s ∧ OutputInv s ∧ ResetInv s

/-- R27, R30, R46, R140: every step keeps the FIFO's invariant, for every draw of every contested sample. -/
def Obligations.FifoInvariantIsKept : Prop :=
  ∀ s t : State, FifoInv s → step s = .next t → FifoInv t

/-- R79: the FIFO is a queue. From a state of the invariant, a PUSH appends the byte pushed, a POP removes the oldest byte
and it is the byte popped, an assertion of reset empties it, and no other step changes it. -/
def Obligations.FifoRefinesAQueue : Prop :=
  ∀ s t : State, FifoInv s → step s = .next t →
    (wRow s = some .push → fifoContents t = fifoContents s ++ [s.ports.wrData]) ∧
    (rRow s = some .pop → ∃ b, fifoRead s = .ok b ∧ fifoContents s = b :: fifoContents t) ∧
    ((∃ rest, s.stimulus = .reset false :: rest) → fifoContents t = []) ∧
    (wRow s ≠ some .push → rRow s ≠ some .pop → (∀ rest, s.stimulus ≠ .reset false :: rest) →
      fifoContents t = fifoContents s)

/-- The storage keeps its canonical form. -/
def Obligations.StorageFormIsKept : Prop :=
  ∀ s t : State, MemInv s → step s = .next t → MemInv t

/-- R33: every step keeps the assembler's invariant. -/
def Obligations.AssemblerInvariantIsKept : Prop :=
  ∀ s t : State, AssemblerInv s → step s = .next t → AssemblerInv t

/-- R36, R38: every step keeps the transmitter's invariant: what is transmitted is always a whole frame with a matching
checksum. -/
def Obligations.TransmitInvariantIsKept : Prop :=
  ∀ s t : State, TransmitInv s → step s = .next t → TransmitInv t

/-- R23, R236, R303: every step keeps the outputs' invariant: at most one event pulse, and only enabled callbacks. -/
def Obligations.OutputInvariantIsKept : Prop :=
  ∀ s t : State, OutputInv s → step s = .next t → OutputInv t

/-- R331, R45: every step keeps the reset synchronisers' invariant: a domain not yet released holds its reset values (the
release as in log 8; that `mem` then lists nothing is the model's choice, log 5). -/
def Obligations.ResetInvariantIsKept : Prop :=
  ∀ s t : State, ResetInv s → step s = .next t → ResetInv t

/-- R160, R300: no step from a state of the invariants faults. -/
def Obligations.NoStepFaults : Prop :=
  ∀ (s : State) (f : Fault), FifoInv s → AssemblerInv s → TransmitInv s → step s ≠ .fault f

/-! ### Whole-machine rules -/

/-- R250, R261: the stage changes only by START, by an acknowledgment while waiting, by a search timeout, and by reset; it
never returns to Idle but by reset. -/
def Obligations.StageChangesOnlyByTheConfigurator : Prop :=
  ∀ s t : State, step s = .next t → t.stage ≠ s.stage →
    (rRow s = some .start ∧ s.stage = .idle ∧ t.stage = .assignChannel) ∨
    (∃ F, frameRow s = some (.eventNoErrorAck F) ∧ waiting s = true ∧ t.stage = nextStage s.cfgQ.role s.stage) ∨
    (∃ F, frameRow s = some (.eventSearchTimeout F) ∧ t.stage = .assignChannel) ∨
    (∃ rest, s.stimulus = .reset false :: rest ∧ t.stage = .idle)

/-- R35, R252, R258: the Channel Configuration latch is written only by START, with the inputs of that edge, and by reset;
the parameters never change (R5). -/
def Obligations.ConfigurationIsLatchedOnce : Prop :=
  ∀ s t : State, step s = .next t →
    t.par = s.par ∧
    (t.cfgQ ≠ s.cfgQ →
      (rRow s = some .start ∧ t.cfgQ = s.ports.host.cfg) ∨
      (∃ rest, s.stimulus = .reset false :: rest ∧ t.cfgQ = .zero))

/-- R80: a `wclk` edge writes only the W domain's registers and the storage, an `rclk` edge only the R domain's registers
(and the model's records of what has changed since the other domain sampled it). -/
def Obligations.EachDomainWritesItsOwnState : Prop :=
  ∀ (s t : State) (d : Draw) (rest : List Stimulus), step s = .next t →
    (s.stimulus = .wclk d :: rest →
      t = { s with
              wRst := t.wRst, wbin := t.wbin, wgray := t.wgray, rq := t.rq, mem := t.mem
              wgPrev := t.wgPrev, wgChanged := t.wgChanged, rgChanged := false, stimulus := rest }) ∧
    (s.stimulus = .rclk d :: rest →
      t.par = s.par ∧ t.ports = s.ports ∧ t.wRst = s.wRst ∧ t.wbin = s.wbin ∧ t.wgray = s.wgray ∧ t.rq = s.rq ∧ t.mem = s.mem ∧
      t.wgPrev = s.wgPrev ∧ t.wgChanged = false ∧ t.stimulus = rest)

/-- R80, R348: what the R domain does depends on the W domain only through `wgray` and the storage entry it pops: change
`wbin`, `rq`, the W ports, the W reset synchroniser and every other entry, and an `rclk` edge does the same. -/
def Obligations.ReadDomainSeesOnlyTheGrayPointer : Prop :=
  ∀ (s t : State) (d : Draw) (rest : List Stimulus) (a : Ptr) (q : Sync) (m : List Host.Cell) (en : Bool) (b : Byte) (r : ResetSync),
    s.stimulus = .rclk d :: rest → memRead m s.rbin.toNat = memRead s.mem s.rbin.toNat → step s = .next t →
    step { s with wbin := a, rq := q, mem := m, wRst := r, ports := { s.ports with wrEn := en, wrData := b } } =
      .next { t with wbin := a, rq := q, mem := m, wRst := r, ports := { t.ports with wrEn := en, wrData := b } }

/-- R80, R348: what the W domain does depends on the R domain only through `rgray`: two states that differ only in the R
domain's registers, `wq` and the R ports among them, are stepped alike by a `wclk` edge. -/
def Obligations.WriteDomainSeesOnlyTheGrayPointer : Prop :=
  ∀ (s s' t : State) (d : Draw) (rest : List Stimulus),
    s.stimulus = .wclk d :: rest → s'.stimulus = s.stimulus → s'.par = s.par → s'.ports.rstN = s.ports.rstN →
    s'.ports.wrEn = s.ports.wrEn → s'.ports.wrData = s.ports.wrData → s'.wRst = s.wRst → s'.wbin = s.wbin →
    s'.wgray = s.wgray → s'.rq = s.rq → s'.mem = s.mem → s'.rgray = s.rgray → s'.rgPrev = s.rgPrev →
    s'.rgChanged = s.rgChanged → step s = .next t →
    ∃ t', step s' = .next t' ∧ t'.wRst = t.wRst ∧ t'.wbin = t.wbin ∧ t'.wgray = t.wgray ∧ t'.rq = t.rq ∧ t'.mem = t.mem

/-- R281, R235: after any R step, each event pulse is 1 exactly if a row run in that step sets it, whatever it was before;
`diag_kind` is the kind of this step's report or else unchanged; `out_frame` and `out_len` are the frame this step latches or
else unchanged. -/
def Obligations.PulsesLastOneCycle : Prop :=
  ∀ (s t : State) (d : Draw) (rest : List Stimulus), RStepAt s d rest → step s = .next t →
    (t.bcastEvt = true ↔ ∃ F, frameRow s = some (.broadcast F)) ∧
    (t.txcEvt = true ↔ ∃ F, frameRow s = some (.eventTxComplete F)) ∧
    t.diagValid = (reportOfEdge s).isSome ∧
    t.diagKind = (reportOfEdge s).getD s.diagKind ∧
    (∀ F, latchedByEdge s = some F →
      t.outFrame = (withLatchedFrame F s).outFrame ∧ t.outLen = (withLatchedFrame F s).outLen) ∧
    (latchedByEdge s = none → t.outFrame = s.outFrame ∧ t.outLen = s.outLen)

/-- R342: while a frame is transmitted, and in Idle, no byte is consumed: an `rclk` edge leaves the read pointer and the
assembler as they are. -/
def Obligations.NoConsumptionWhileTransmittingOrIdle : Prop :=
  ∀ (s t : State) (d : Draw) (rest : List Stimulus), s.stimulus = .rclk d :: rest → step s = .next t →
    (s.txActive = true ∨ s.stage = .idle) →
    t.rbin = s.rbin ∧ t.rgray = s.rgray ∧ t.faIn = s.faIn ∧ t.faPos = s.faPos ∧ t.faBuf = s.faBuf

/-- R208, R73, R99: the frame a broadcast-data request loads, fed to a block whose broadcast callback is supplied and
whose assembler hunts, is delivered: the pulse, the message id, the address and the six data bytes. It holds where no byte
after index 0 is 0xA4 (R107). -/
def Obligations.BroadcastRoundTrip : Prop :=
  ∀ (s t r : State) (n : Nat),
    s.txActive = false → hostReqReady s = true → s.ports.host.reqValid = true → s.ports.host.reqKind = 0x8 →
    exec .hostKBcast s = .next t → n = t.txLen.toNat →
    (t.txBuf.toList.take n).tail.contains 0xA4 = false →
    r.faIn = false → r.cfgQ.bcastEn = true →
    ∃ u, feed (t.txBuf.toList.take n) r = some u ∧ u.bcastEvt = true ∧ u.outLen = 13 ∧
      u.outFrame[2] = 0x4E ∧ half u.outFrame[4] u.outFrame[5] = s.ports.host.reqAddr ∧
      packData u.outFrame[6] u.outFrame[7] u.outFrame[8] u.outFrame[9] u.outFrame[10] u.outFrame[11] = s.ports.host.reqData
end

