-- ==== Sys2Proof/Laws/State.lean ====
section
/-! SUPPORT. One lemma per field of State for each state update of the model, so that no proof unfolds a record update. -/
namespace Sys2Proof.Machine

open Sys2Proof

variable (s : State)

/-! ### clearPulses: The R step's first writes (R281). -/

@[simp] theorem clearPulses_par : (clearPulses s).par = s.par := rfl
@[simp] theorem clearPulses_ports : (clearPulses s).ports = s.ports := rfl
@[simp] theorem clearPulses_wRst : (clearPulses s).wRst = s.wRst := rfl
@[simp] theorem clearPulses_rRst : (clearPulses s).rRst = s.rRst := rfl
@[simp] theorem clearPulses_wbin : (clearPulses s).wbin = s.wbin := rfl
@[simp] theorem clearPulses_wgray : (clearPulses s).wgray = s.wgray := rfl
@[simp] theorem clearPulses_rq : (clearPulses s).rq = s.rq := rfl
@[simp] theorem clearPulses_mem : (clearPulses s).mem = s.mem := rfl
@[simp] theorem clearPulses_rbin : (clearPulses s).rbin = s.rbin := rfl
@[simp] theorem clearPulses_rgray : (clearPulses s).rgray = s.rgray := rfl
@[simp] theorem clearPulses_wq : (clearPulses s).wq = s.wq := rfl
@[simp] theorem clearPulses_faIn : (clearPulses s).faIn = s.faIn := rfl
@[simp] theorem clearPulses_faPos : (clearPulses s).faPos = s.faPos := rfl
@[simp] theorem clearPulses_faBuf : (clearPulses s).faBuf = s.faBuf := rfl
@[simp] theorem clearPulses_cfgQ : (clearPulses s).cfgQ = s.cfgQ := rfl
@[simp] theorem clearPulses_stage : (clearPulses s).stage = s.stage := rfl
@[simp] theorem clearPulses_txActive : (clearPulses s).txActive = s.txActive := rfl
@[simp] theorem clearPulses_txBuf : (clearPulses s).txBuf = s.txBuf := rfl
@[simp] theorem clearPulses_txLen : (clearPulses s).txLen = s.txLen := rfl
@[simp] theorem clearPulses_txIdx : (clearPulses s).txIdx = s.txIdx := rfl
@[simp] theorem clearPulses_bcastEvt : (clearPulses s).bcastEvt = false := rfl
@[simp] theorem clearPulses_txcEvt : (clearPulses s).txcEvt = false := rfl
@[simp] theorem clearPulses_diagValid : (clearPulses s).diagValid = false := rfl
@[simp] theorem clearPulses_diagKind : (clearPulses s).diagKind = s.diagKind := rfl
@[simp] theorem clearPulses_outFrame : (clearPulses s).outFrame = s.outFrame := rfl
@[simp] theorem clearPulses_outLen : (clearPulses s).outLen = s.outLen := rfl
@[simp] theorem clearPulses_wgPrev : (clearPulses s).wgPrev = s.wgPrev := rfl
@[simp] theorem clearPulses_wgChanged : (clearPulses s).wgChanged = s.wgChanged := rfl
@[simp] theorem clearPulses_rgPrev : (clearPulses s).rgPrev = s.rgPrev := rfl
@[simp] theorem clearPulses_rgChanged : (clearPulses s).rgChanged = s.rgChanged := rfl
@[simp] theorem clearPulses_stimulus : (clearPulses s).stimulus = s.stimulus := rfl

/-! ### pushByte: PUSH's writes (R131). -/

@[simp] theorem pushByte_par (b : Byte) : (pushByte b s).par = s.par := rfl
@[simp] theorem pushByte_ports (b : Byte) : (pushByte b s).ports = s.ports := rfl
@[simp] theorem pushByte_wRst (b : Byte) : (pushByte b s).wRst = s.wRst := rfl
@[simp] theorem pushByte_rRst (b : Byte) : (pushByte b s).rRst = s.rRst := rfl
@[simp] theorem pushByte_wbin (b : Byte) : (pushByte b s).wbin = s.par.inc s.wbin := rfl
@[simp] theorem pushByte_wgray (b : Byte) : (pushByte b s).wgray = gray (s.par.inc s.wbin) := rfl
@[simp] theorem pushByte_rq (b : Byte) : (pushByte b s).rq = s.rq := rfl
@[simp] theorem pushByte_mem (b : Byte) : (pushByte b s).mem = memWrite s.mem s.wbin.toNat b := rfl
@[simp] theorem pushByte_rbin (b : Byte) : (pushByte b s).rbin = s.rbin := rfl
@[simp] theorem pushByte_rgray (b : Byte) : (pushByte b s).rgray = s.rgray := rfl
@[simp] theorem pushByte_wq (b : Byte) : (pushByte b s).wq = s.wq := rfl
@[simp] theorem pushByte_faIn (b : Byte) : (pushByte b s).faIn = s.faIn := rfl
@[simp] theorem pushByte_faPos (b : Byte) : (pushByte b s).faPos = s.faPos := rfl
@[simp] theorem pushByte_faBuf (b : Byte) : (pushByte b s).faBuf = s.faBuf := rfl
@[simp] theorem pushByte_cfgQ (b : Byte) : (pushByte b s).cfgQ = s.cfgQ := rfl
@[simp] theorem pushByte_stage (b : Byte) : (pushByte b s).stage = s.stage := rfl
@[simp] theorem pushByte_txActive (b : Byte) : (pushByte b s).txActive = s.txActive := rfl
@[simp] theorem pushByte_txBuf (b : Byte) : (pushByte b s).txBuf = s.txBuf := rfl
@[simp] theorem pushByte_txLen (b : Byte) : (pushByte b s).txLen = s.txLen := rfl
@[simp] theorem pushByte_txIdx (b : Byte) : (pushByte b s).txIdx = s.txIdx := rfl
@[simp] theorem pushByte_bcastEvt (b : Byte) : (pushByte b s).bcastEvt = s.bcastEvt := rfl
@[simp] theorem pushByte_txcEvt (b : Byte) : (pushByte b s).txcEvt = s.txcEvt := rfl
@[simp] theorem pushByte_diagValid (b : Byte) : (pushByte b s).diagValid = s.diagValid := rfl
@[simp] theorem pushByte_diagKind (b : Byte) : (pushByte b s).diagKind = s.diagKind := rfl
@[simp] theorem pushByte_outFrame (b : Byte) : (pushByte b s).outFrame = s.outFrame := rfl
@[simp] theorem pushByte_outLen (b : Byte) : (pushByte b s).outLen = s.outLen := rfl
@[simp] theorem pushByte_wgPrev (b : Byte) : (pushByte b s).wgPrev = s.wgray := rfl
@[simp] theorem pushByte_wgChanged (b : Byte) : (pushByte b s).wgChanged = true := rfl
@[simp] theorem pushByte_rgPrev (b : Byte) : (pushByte b s).rgPrev = s.rgPrev := rfl
@[simp] theorem pushByte_rgChanged (b : Byte) : (pushByte b s).rgChanged = s.rgChanged := rfl
@[simp] theorem pushByte_stimulus (b : Byte) : (pushByte b s).stimulus = s.stimulus := rfl

/-! ### advanceRead: POP's pointer writes (R135). -/

@[simp] theorem advanceRead_par : (advanceRead s).par = s.par := rfl
@[simp] theorem advanceRead_ports : (advanceRead s).ports = s.ports := rfl
@[simp] theorem advanceRead_wRst : (advanceRead s).wRst = s.wRst := rfl
@[simp] theorem advanceRead_rRst : (advanceRead s).rRst = s.rRst := rfl
@[simp] theorem advanceRead_wbin : (advanceRead s).wbin = s.wbin := rfl
@[simp] theorem advanceRead_wgray : (advanceRead s).wgray = s.wgray := rfl
@[simp] theorem advanceRead_rq : (advanceRead s).rq = s.rq := rfl
@[simp] theorem advanceRead_mem : (advanceRead s).mem = s.mem := rfl
@[simp] theorem advanceRead_rbin : (advanceRead s).rbin = s.par.inc s.rbin := rfl
@[simp] theorem advanceRead_rgray : (advanceRead s).rgray = gray (s.par.inc s.rbin) := rfl
@[simp] theorem advanceRead_wq : (advanceRead s).wq = s.wq := rfl
@[simp] theorem advanceRead_faIn : (advanceRead s).faIn = s.faIn := rfl
@[simp] theorem advanceRead_faPos : (advanceRead s).faPos = s.faPos := rfl
@[simp] theorem advanceRead_faBuf : (advanceRead s).faBuf = s.faBuf := rfl
@[simp] theorem advanceRead_cfgQ : (advanceRead s).cfgQ = s.cfgQ := rfl
@[simp] theorem advanceRead_stage : (advanceRead s).stage = s.stage := rfl
@[simp] theorem advanceRead_txActive : (advanceRead s).txActive = s.txActive := rfl
@[simp] theorem advanceRead_txBuf : (advanceRead s).txBuf = s.txBuf := rfl
@[simp] theorem advanceRead_txLen : (advanceRead s).txLen = s.txLen := rfl
@[simp] theorem advanceRead_txIdx : (advanceRead s).txIdx = s.txIdx := rfl
@[simp] theorem advanceRead_bcastEvt : (advanceRead s).bcastEvt = s.bcastEvt := rfl
@[simp] theorem advanceRead_txcEvt : (advanceRead s).txcEvt = s.txcEvt := rfl
@[simp] theorem advanceRead_diagValid : (advanceRead s).diagValid = s.diagValid := rfl
@[simp] theorem advanceRead_diagKind : (advanceRead s).diagKind = s.diagKind := rfl
@[simp] theorem advanceRead_outFrame : (advanceRead s).outFrame = s.outFrame := rfl
@[simp] theorem advanceRead_outLen : (advanceRead s).outLen = s.outLen := rfl
@[simp] theorem advanceRead_wgPrev : (advanceRead s).wgPrev = s.wgPrev := rfl
@[simp] theorem advanceRead_wgChanged : (advanceRead s).wgChanged = s.wgChanged := rfl
@[simp] theorem advanceRead_rgPrev : (advanceRead s).rgPrev = s.rgray := rfl
@[simp] theorem advanceRead_rgChanged : (advanceRead s).rgChanged = true := rfl
@[simp] theorem advanceRead_stimulus : (advanceRead s).stimulus = s.stimulus := rfl

/-! ### latch: The output latch (R235). -/

@[simp] theorem latch_par (F : List Byte) : (latch F s).par = s.par := rfl
@[simp] theorem latch_ports (F : List Byte) : (latch F s).ports = s.ports := rfl
@[simp] theorem latch_wRst (F : List Byte) : (latch F s).wRst = s.wRst := rfl
@[simp] theorem latch_rRst (F : List Byte) : (latch F s).rRst = s.rRst := rfl
@[simp] theorem latch_wbin (F : List Byte) : (latch F s).wbin = s.wbin := rfl
@[simp] theorem latch_wgray (F : List Byte) : (latch F s).wgray = s.wgray := rfl
@[simp] theorem latch_rq (F : List Byte) : (latch F s).rq = s.rq := rfl
@[simp] theorem latch_mem (F : List Byte) : (latch F s).mem = s.mem := rfl
@[simp] theorem latch_rbin (F : List Byte) : (latch F s).rbin = s.rbin := rfl
@[simp] theorem latch_rgray (F : List Byte) : (latch F s).rgray = s.rgray := rfl
@[simp] theorem latch_wq (F : List Byte) : (latch F s).wq = s.wq := rfl
@[simp] theorem latch_faIn (F : List Byte) : (latch F s).faIn = s.faIn := rfl
@[simp] theorem latch_faPos (F : List Byte) : (latch F s).faPos = s.faPos := rfl
@[simp] theorem latch_faBuf (F : List Byte) : (latch F s).faBuf = s.faBuf := rfl
@[simp] theorem latch_cfgQ (F : List Byte) : (latch F s).cfgQ = s.cfgQ := rfl
@[simp] theorem latch_stage (F : List Byte) : (latch F s).stage = s.stage := rfl
@[simp] theorem latch_txActive (F : List Byte) : (latch F s).txActive = s.txActive := rfl
@[simp] theorem latch_txBuf (F : List Byte) : (latch F s).txBuf = s.txBuf := rfl
@[simp] theorem latch_txLen (F : List Byte) : (latch F s).txLen = s.txLen := rfl
@[simp] theorem latch_txIdx (F : List Byte) : (latch F s).txIdx = s.txIdx := rfl
@[simp] theorem latch_bcastEvt (F : List Byte) : (latch F s).bcastEvt = s.bcastEvt := rfl
@[simp] theorem latch_txcEvt (F : List Byte) : (latch F s).txcEvt = s.txcEvt := rfl
@[simp] theorem latch_diagValid (F : List Byte) : (latch F s).diagValid = s.diagValid := rfl
@[simp] theorem latch_diagKind (F : List Byte) : (latch F s).diagKind = s.diagKind := rfl
@[simp] theorem latch_outFrame (F : List Byte) : (latch F s).outFrame = s.outFrame.mapIdx fun i _ => frameByte F i := rfl
@[simp] theorem latch_outLen (F : List Byte) : (latch F s).outLen = BitVec.ofNat 5 F.length := rfl
@[simp] theorem latch_wgPrev (F : List Byte) : (latch F s).wgPrev = s.wgPrev := rfl
@[simp] theorem latch_wgChanged (F : List Byte) : (latch F s).wgChanged = s.wgChanged := rfl
@[simp] theorem latch_rgPrev (F : List Byte) : (latch F s).rgPrev = s.rgPrev := rfl
@[simp] theorem latch_rgChanged (F : List Byte) : (latch F s).rgChanged = s.rgChanged := rfl
@[simp] theorem latch_stimulus (F : List Byte) : (latch F s).stimulus = s.stimulus := rfl

/-! ### report: A report (R12, R284). -/

@[simp] theorem report_par (k : DiagKind) : (report k s).par = s.par := rfl
@[simp] theorem report_ports (k : DiagKind) : (report k s).ports = s.ports := rfl
@[simp] theorem report_wRst (k : DiagKind) : (report k s).wRst = s.wRst := rfl
@[simp] theorem report_rRst (k : DiagKind) : (report k s).rRst = s.rRst := rfl
@[simp] theorem report_wbin (k : DiagKind) : (report k s).wbin = s.wbin := rfl
@[simp] theorem report_wgray (k : DiagKind) : (report k s).wgray = s.wgray := rfl
@[simp] theorem report_rq (k : DiagKind) : (report k s).rq = s.rq := rfl
@[simp] theorem report_mem (k : DiagKind) : (report k s).mem = s.mem := rfl
@[simp] theorem report_rbin (k : DiagKind) : (report k s).rbin = s.rbin := rfl
@[simp] theorem report_rgray (k : DiagKind) : (report k s).rgray = s.rgray := rfl
@[simp] theorem report_wq (k : DiagKind) : (report k s).wq = s.wq := rfl
@[simp] theorem report_faIn (k : DiagKind) : (report k s).faIn = s.faIn := rfl
@[simp] theorem report_faPos (k : DiagKind) : (report k s).faPos = s.faPos := rfl
@[simp] theorem report_faBuf (k : DiagKind) : (report k s).faBuf = s.faBuf := rfl
@[simp] theorem report_cfgQ (k : DiagKind) : (report k s).cfgQ = s.cfgQ := rfl
@[simp] theorem report_stage (k : DiagKind) : (report k s).stage = s.stage := rfl
@[simp] theorem report_txActive (k : DiagKind) : (report k s).txActive = s.txActive := rfl
@[simp] theorem report_txBuf (k : DiagKind) : (report k s).txBuf = s.txBuf := rfl
@[simp] theorem report_txLen (k : DiagKind) : (report k s).txLen = s.txLen := rfl
@[simp] theorem report_txIdx (k : DiagKind) : (report k s).txIdx = s.txIdx := rfl
@[simp] theorem report_bcastEvt (k : DiagKind) : (report k s).bcastEvt = s.bcastEvt := rfl
@[simp] theorem report_txcEvt (k : DiagKind) : (report k s).txcEvt = s.txcEvt := rfl
@[simp] theorem report_diagValid (k : DiagKind) : (report k s).diagValid = true := rfl
@[simp] theorem report_diagKind (k : DiagKind) : (report k s).diagKind = k := rfl
@[simp] theorem report_outFrame (k : DiagKind) : (report k s).outFrame = s.outFrame := rfl
@[simp] theorem report_outLen (k : DiagKind) : (report k s).outLen = s.outLen := rfl
@[simp] theorem report_wgPrev (k : DiagKind) : (report k s).wgPrev = s.wgPrev := rfl
@[simp] theorem report_wgChanged (k : DiagKind) : (report k s).wgChanged = s.wgChanged := rfl
@[simp] theorem report_rgPrev (k : DiagKind) : (report k s).rgPrev = s.rgPrev := rfl
@[simp] theorem report_rgChanged (k : DiagKind) : (report k s).rgChanged = s.rgChanged := rfl
@[simp] theorem report_stimulus (k : DiagKind) : (report k s).stimulus = s.stimulus := rfl

/-! ### latchReport: A report of a frame (R235, R284). -/

@[simp] theorem latchReport_par (k : DiagKind) (F : List Byte) : (latchReport k F s).par = s.par := rfl
@[simp] theorem latchReport_ports (k : DiagKind) (F : List Byte) : (latchReport k F s).ports = s.ports := rfl
@[simp] theorem latchReport_wRst (k : DiagKind) (F : List Byte) : (latchReport k F s).wRst = s.wRst := rfl
@[simp] theorem latchReport_rRst (k : DiagKind) (F : List Byte) : (latchReport k F s).rRst = s.rRst := rfl
@[simp] theorem latchReport_wbin (k : DiagKind) (F : List Byte) : (latchReport k F s).wbin = s.wbin := rfl
@[simp] theorem latchReport_wgray (k : DiagKind) (F : List Byte) : (latchReport k F s).wgray = s.wgray := rfl
@[simp] theorem latchReport_rq (k : DiagKind) (F : List Byte) : (latchReport k F s).rq = s.rq := rfl
@[simp] theorem latchReport_mem (k : DiagKind) (F : List Byte) : (latchReport k F s).mem = s.mem := rfl
@[simp] theorem latchReport_rbin (k : DiagKind) (F : List Byte) : (latchReport k F s).rbin = s.rbin := rfl
@[simp] theorem latchReport_rgray (k : DiagKind) (F : List Byte) : (latchReport k F s).rgray = s.rgray := rfl
@[simp] theorem latchReport_wq (k : DiagKind) (F : List Byte) : (latchReport k F s).wq = s.wq := rfl
@[simp] theorem latchReport_faIn (k : DiagKind) (F : List Byte) : (latchReport k F s).faIn = s.faIn := rfl
@[simp] theorem latchReport_faPos (k : DiagKind) (F : List Byte) : (latchReport k F s).faPos = s.faPos := rfl
@[simp] theorem latchReport_faBuf (k : DiagKind) (F : List Byte) : (latchReport k F s).faBuf = s.faBuf := rfl
@[simp] theorem latchReport_cfgQ (k : DiagKind) (F : List Byte) : (latchReport k F s).cfgQ = s.cfgQ := rfl
@[simp] theorem latchReport_stage (k : DiagKind) (F : List Byte) : (latchReport k F s).stage = s.stage := rfl
@[simp] theorem latchReport_txActive (k : DiagKind) (F : List Byte) : (latchReport k F s).txActive = s.txActive := rfl
@[simp] theorem latchReport_txBuf (k : DiagKind) (F : List Byte) : (latchReport k F s).txBuf = s.txBuf := rfl
@[simp] theorem latchReport_txLen (k : DiagKind) (F : List Byte) : (latchReport k F s).txLen = s.txLen := rfl
@[simp] theorem latchReport_txIdx (k : DiagKind) (F : List Byte) : (latchReport k F s).txIdx = s.txIdx := rfl
@[simp] theorem latchReport_bcastEvt (k : DiagKind) (F : List Byte) : (latchReport k F s).bcastEvt = s.bcastEvt := rfl
@[simp] theorem latchReport_txcEvt (k : DiagKind) (F : List Byte) : (latchReport k F s).txcEvt = s.txcEvt := rfl
@[simp] theorem latchReport_diagValid (k : DiagKind) (F : List Byte) : (latchReport k F s).diagValid = true := rfl
@[simp] theorem latchReport_diagKind (k : DiagKind) (F : List Byte) : (latchReport k F s).diagKind = k := rfl
@[simp] theorem latchReport_outFrame (k : DiagKind) (F : List Byte) : (latchReport k F s).outFrame = s.outFrame.mapIdx fun i _ => frameByte F i := rfl
@[simp] theorem latchReport_outLen (k : DiagKind) (F : List Byte) : (latchReport k F s).outLen = BitVec.ofNat 5 F.length := rfl
@[simp] theorem latchReport_wgPrev (k : DiagKind) (F : List Byte) : (latchReport k F s).wgPrev = s.wgPrev := rfl
@[simp] theorem latchReport_wgChanged (k : DiagKind) (F : List Byte) : (latchReport k F s).wgChanged = s.wgChanged := rfl
@[simp] theorem latchReport_rgPrev (k : DiagKind) (F : List Byte) : (latchReport k F s).rgPrev = s.rgPrev := rfl
@[simp] theorem latchReport_rgChanged (k : DiagKind) (F : List Byte) : (latchReport k F s).rgChanged = s.rgChanged := rfl
@[simp] theorem latchReport_stimulus (k : DiagKind) (F : List Byte) : (latchReport k F s).stimulus = s.stimulus := rfl

/-! ### emitBcast: A broadcast callback (R283). -/

@[simp] theorem emitBcast_par : (emitBcast s).par = s.par := rfl
@[simp] theorem emitBcast_ports : (emitBcast s).ports = s.ports := rfl
@[simp] theorem emitBcast_wRst : (emitBcast s).wRst = s.wRst := rfl
@[simp] theorem emitBcast_rRst : (emitBcast s).rRst = s.rRst := rfl
@[simp] theorem emitBcast_wbin : (emitBcast s).wbin = s.wbin := rfl
@[simp] theorem emitBcast_wgray : (emitBcast s).wgray = s.wgray := rfl
@[simp] theorem emitBcast_rq : (emitBcast s).rq = s.rq := rfl
@[simp] theorem emitBcast_mem : (emitBcast s).mem = s.mem := rfl
@[simp] theorem emitBcast_rbin : (emitBcast s).rbin = s.rbin := rfl
@[simp] theorem emitBcast_rgray : (emitBcast s).rgray = s.rgray := rfl
@[simp] theorem emitBcast_wq : (emitBcast s).wq = s.wq := rfl
@[simp] theorem emitBcast_faIn : (emitBcast s).faIn = s.faIn := rfl
@[simp] theorem emitBcast_faPos : (emitBcast s).faPos = s.faPos := rfl
@[simp] theorem emitBcast_faBuf : (emitBcast s).faBuf = s.faBuf := rfl
@[simp] theorem emitBcast_cfgQ : (emitBcast s).cfgQ = s.cfgQ := rfl
@[simp] theorem emitBcast_stage : (emitBcast s).stage = s.stage := rfl
@[simp] theorem emitBcast_txActive : (emitBcast s).txActive = s.txActive := rfl
@[simp] theorem emitBcast_txBuf : (emitBcast s).txBuf = s.txBuf := rfl
@[simp] theorem emitBcast_txLen : (emitBcast s).txLen = s.txLen := rfl
@[simp] theorem emitBcast_txIdx : (emitBcast s).txIdx = s.txIdx := rfl
@[simp] theorem emitBcast_bcastEvt : (emitBcast s).bcastEvt = true := rfl
@[simp] theorem emitBcast_txcEvt : (emitBcast s).txcEvt = s.txcEvt := rfl
@[simp] theorem emitBcast_diagValid : (emitBcast s).diagValid = s.diagValid := rfl
@[simp] theorem emitBcast_diagKind : (emitBcast s).diagKind = s.diagKind := rfl
@[simp] theorem emitBcast_outFrame : (emitBcast s).outFrame = s.outFrame := rfl
@[simp] theorem emitBcast_outLen : (emitBcast s).outLen = s.outLen := rfl
@[simp] theorem emitBcast_wgPrev : (emitBcast s).wgPrev = s.wgPrev := rfl
@[simp] theorem emitBcast_wgChanged : (emitBcast s).wgChanged = s.wgChanged := rfl
@[simp] theorem emitBcast_rgPrev : (emitBcast s).rgPrev = s.rgPrev := rfl
@[simp] theorem emitBcast_rgChanged : (emitBcast s).rgChanged = s.rgChanged := rfl
@[simp] theorem emitBcast_stimulus : (emitBcast s).stimulus = s.stimulus := rfl

/-! ### emitTxDone: A transmit-complete callback (R283). -/

@[simp] theorem emitTxDone_par : (emitTxDone s).par = s.par := rfl
@[simp] theorem emitTxDone_ports : (emitTxDone s).ports = s.ports := rfl
@[simp] theorem emitTxDone_wRst : (emitTxDone s).wRst = s.wRst := rfl
@[simp] theorem emitTxDone_rRst : (emitTxDone s).rRst = s.rRst := rfl
@[simp] theorem emitTxDone_wbin : (emitTxDone s).wbin = s.wbin := rfl
@[simp] theorem emitTxDone_wgray : (emitTxDone s).wgray = s.wgray := rfl
@[simp] theorem emitTxDone_rq : (emitTxDone s).rq = s.rq := rfl
@[simp] theorem emitTxDone_mem : (emitTxDone s).mem = s.mem := rfl
@[simp] theorem emitTxDone_rbin : (emitTxDone s).rbin = s.rbin := rfl
@[simp] theorem emitTxDone_rgray : (emitTxDone s).rgray = s.rgray := rfl
@[simp] theorem emitTxDone_wq : (emitTxDone s).wq = s.wq := rfl
@[simp] theorem emitTxDone_faIn : (emitTxDone s).faIn = s.faIn := rfl
@[simp] theorem emitTxDone_faPos : (emitTxDone s).faPos = s.faPos := rfl
@[simp] theorem emitTxDone_faBuf : (emitTxDone s).faBuf = s.faBuf := rfl
@[simp] theorem emitTxDone_cfgQ : (emitTxDone s).cfgQ = s.cfgQ := rfl
@[simp] theorem emitTxDone_stage : (emitTxDone s).stage = s.stage := rfl
@[simp] theorem emitTxDone_txActive : (emitTxDone s).txActive = s.txActive := rfl
@[simp] theorem emitTxDone_txBuf : (emitTxDone s).txBuf = s.txBuf := rfl
@[simp] theorem emitTxDone_txLen : (emitTxDone s).txLen = s.txLen := rfl
@[simp] theorem emitTxDone_txIdx : (emitTxDone s).txIdx = s.txIdx := rfl
@[simp] theorem emitTxDone_bcastEvt : (emitTxDone s).bcastEvt = s.bcastEvt := rfl
@[simp] theorem emitTxDone_txcEvt : (emitTxDone s).txcEvt = true := rfl
@[simp] theorem emitTxDone_diagValid : (emitTxDone s).diagValid = s.diagValid := rfl
@[simp] theorem emitTxDone_diagKind : (emitTxDone s).diagKind = s.diagKind := rfl
@[simp] theorem emitTxDone_outFrame : (emitTxDone s).outFrame = s.outFrame := rfl
@[simp] theorem emitTxDone_outLen : (emitTxDone s).outLen = s.outLen := rfl
@[simp] theorem emitTxDone_wgPrev : (emitTxDone s).wgPrev = s.wgPrev := rfl
@[simp] theorem emitTxDone_wgChanged : (emitTxDone s).wgChanged = s.wgChanged := rfl
@[simp] theorem emitTxDone_rgPrev : (emitTxDone s).rgPrev = s.rgPrev := rfl
@[simp] theorem emitTxDone_rgChanged : (emitTxDone s).rgChanged = s.rgChanged := rfl
@[simp] theorem emitTxDone_stimulus : (emitTxDone s).stimulus = s.stimulus := rfl

/-! ### loadTx: The encoder primitive (R195). -/

@[simp] theorem loadTx_par (id : Byte) (P : List Byte) : (loadTx id P s).par = s.par := rfl
@[simp] theorem loadTx_ports (id : Byte) (P : List Byte) : (loadTx id P s).ports = s.ports := rfl
@[simp] theorem loadTx_wRst (id : Byte) (P : List Byte) : (loadTx id P s).wRst = s.wRst := rfl
@[simp] theorem loadTx_rRst (id : Byte) (P : List Byte) : (loadTx id P s).rRst = s.rRst := rfl
@[simp] theorem loadTx_wbin (id : Byte) (P : List Byte) : (loadTx id P s).wbin = s.wbin := rfl
@[simp] theorem loadTx_wgray (id : Byte) (P : List Byte) : (loadTx id P s).wgray = s.wgray := rfl
@[simp] theorem loadTx_rq (id : Byte) (P : List Byte) : (loadTx id P s).rq = s.rq := rfl
@[simp] theorem loadTx_mem (id : Byte) (P : List Byte) : (loadTx id P s).mem = s.mem := rfl
@[simp] theorem loadTx_rbin (id : Byte) (P : List Byte) : (loadTx id P s).rbin = s.rbin := rfl
@[simp] theorem loadTx_rgray (id : Byte) (P : List Byte) : (loadTx id P s).rgray = s.rgray := rfl
@[simp] theorem loadTx_wq (id : Byte) (P : List Byte) : (loadTx id P s).wq = s.wq := rfl
@[simp] theorem loadTx_faIn (id : Byte) (P : List Byte) : (loadTx id P s).faIn = s.faIn := rfl
@[simp] theorem loadTx_faPos (id : Byte) (P : List Byte) : (loadTx id P s).faPos = s.faPos := rfl
@[simp] theorem loadTx_faBuf (id : Byte) (P : List Byte) : (loadTx id P s).faBuf = s.faBuf := rfl
@[simp] theorem loadTx_cfgQ (id : Byte) (P : List Byte) : (loadTx id P s).cfgQ = s.cfgQ := rfl
@[simp] theorem loadTx_stage (id : Byte) (P : List Byte) : (loadTx id P s).stage = s.stage := rfl
@[simp] theorem loadTx_txActive (id : Byte) (P : List Byte) : (loadTx id P s).txActive = true := rfl
@[simp] theorem loadTx_txBuf (id : Byte) (P : List Byte) : (loadTx id P s).txBuf = fillTxBuf (build id P) s.txBuf := rfl
@[simp] theorem loadTx_txLen (id : Byte) (P : List Byte) : (loadTx id P s).txLen = BitVec.ofNat 4 (P.length + 4) := rfl
@[simp] theorem loadTx_txIdx (id : Byte) (P : List Byte) : (loadTx id P s).txIdx = 0 := rfl
@[simp] theorem loadTx_bcastEvt (id : Byte) (P : List Byte) : (loadTx id P s).bcastEvt = s.bcastEvt := rfl
@[simp] theorem loadTx_txcEvt (id : Byte) (P : List Byte) : (loadTx id P s).txcEvt = s.txcEvt := rfl
@[simp] theorem loadTx_diagValid (id : Byte) (P : List Byte) : (loadTx id P s).diagValid = s.diagValid := rfl
@[simp] theorem loadTx_diagKind (id : Byte) (P : List Byte) : (loadTx id P s).diagKind = s.diagKind := rfl
@[simp] theorem loadTx_outFrame (id : Byte) (P : List Byte) : (loadTx id P s).outFrame = s.outFrame := rfl
@[simp] theorem loadTx_outLen (id : Byte) (P : List Byte) : (loadTx id P s).outLen = s.outLen := rfl
@[simp] theorem loadTx_wgPrev (id : Byte) (P : List Byte) : (loadTx id P s).wgPrev = s.wgPrev := rfl
@[simp] theorem loadTx_wgChanged (id : Byte) (P : List Byte) : (loadTx id P s).wgChanged = s.wgChanged := rfl
@[simp] theorem loadTx_rgPrev (id : Byte) (P : List Byte) : (loadTx id P s).rgPrev = s.rgPrev := rfl
@[simp] theorem loadTx_rgChanged (id : Byte) (P : List Byte) : (loadTx id P s).rgChanged = s.rgChanged := rfl
@[simp] theorem loadTx_stimulus (id : Byte) (P : List Byte) : (loadTx id P s).stimulus = s.stimulus := rfl

/-! ### setStage: A stage transition (R250). -/

@[simp] theorem setStage_par (g : Stage) : (setStage g s).par = s.par := rfl
@[simp] theorem setStage_ports (g : Stage) : (setStage g s).ports = s.ports := rfl
@[simp] theorem setStage_wRst (g : Stage) : (setStage g s).wRst = s.wRst := rfl
@[simp] theorem setStage_rRst (g : Stage) : (setStage g s).rRst = s.rRst := rfl
@[simp] theorem setStage_wbin (g : Stage) : (setStage g s).wbin = s.wbin := rfl
@[simp] theorem setStage_wgray (g : Stage) : (setStage g s).wgray = s.wgray := rfl
@[simp] theorem setStage_rq (g : Stage) : (setStage g s).rq = s.rq := rfl
@[simp] theorem setStage_mem (g : Stage) : (setStage g s).mem = s.mem := rfl
@[simp] theorem setStage_rbin (g : Stage) : (setStage g s).rbin = s.rbin := rfl
@[simp] theorem setStage_rgray (g : Stage) : (setStage g s).rgray = s.rgray := rfl
@[simp] theorem setStage_wq (g : Stage) : (setStage g s).wq = s.wq := rfl
@[simp] theorem setStage_faIn (g : Stage) : (setStage g s).faIn = s.faIn := rfl
@[simp] theorem setStage_faPos (g : Stage) : (setStage g s).faPos = s.faPos := rfl
@[simp] theorem setStage_faBuf (g : Stage) : (setStage g s).faBuf = s.faBuf := rfl
@[simp] theorem setStage_cfgQ (g : Stage) : (setStage g s).cfgQ = s.cfgQ := rfl
@[simp] theorem setStage_stage (g : Stage) : (setStage g s).stage = g := rfl
@[simp] theorem setStage_txActive (g : Stage) : (setStage g s).txActive = s.txActive := rfl
@[simp] theorem setStage_txBuf (g : Stage) : (setStage g s).txBuf = s.txBuf := rfl
@[simp] theorem setStage_txLen (g : Stage) : (setStage g s).txLen = s.txLen := rfl
@[simp] theorem setStage_txIdx (g : Stage) : (setStage g s).txIdx = s.txIdx := rfl
@[simp] theorem setStage_bcastEvt (g : Stage) : (setStage g s).bcastEvt = s.bcastEvt := rfl
@[simp] theorem setStage_txcEvt (g : Stage) : (setStage g s).txcEvt = s.txcEvt := rfl
@[simp] theorem setStage_diagValid (g : Stage) : (setStage g s).diagValid = s.diagValid := rfl
@[simp] theorem setStage_diagKind (g : Stage) : (setStage g s).diagKind = s.diagKind := rfl
@[simp] theorem setStage_outFrame (g : Stage) : (setStage g s).outFrame = s.outFrame := rfl
@[simp] theorem setStage_outLen (g : Stage) : (setStage g s).outLen = s.outLen := rfl
@[simp] theorem setStage_wgPrev (g : Stage) : (setStage g s).wgPrev = s.wgPrev := rfl
@[simp] theorem setStage_wgChanged (g : Stage) : (setStage g s).wgChanged = s.wgChanged := rfl
@[simp] theorem setStage_rgPrev (g : Stage) : (setStage g s).rgPrev = s.rgPrev := rfl
@[simp] theorem setStage_rgChanged (g : Stage) : (setStage g s).rgChanged = s.rgChanged := rfl
@[simp] theorem setStage_stimulus (g : Stage) : (setStage g s).stimulus = s.stimulus := rfl

/-! ### storeFaBuf: A byte stored in the frame buffer (R34). -/

@[simp] theorem storeFaBuf_par (i : Nat) (b : Byte) : (storeFaBuf i b s).par = s.par := rfl
@[simp] theorem storeFaBuf_ports (i : Nat) (b : Byte) : (storeFaBuf i b s).ports = s.ports := rfl
@[simp] theorem storeFaBuf_wRst (i : Nat) (b : Byte) : (storeFaBuf i b s).wRst = s.wRst := rfl
@[simp] theorem storeFaBuf_rRst (i : Nat) (b : Byte) : (storeFaBuf i b s).rRst = s.rRst := rfl
@[simp] theorem storeFaBuf_wbin (i : Nat) (b : Byte) : (storeFaBuf i b s).wbin = s.wbin := rfl
@[simp] theorem storeFaBuf_wgray (i : Nat) (b : Byte) : (storeFaBuf i b s).wgray = s.wgray := rfl
@[simp] theorem storeFaBuf_rq (i : Nat) (b : Byte) : (storeFaBuf i b s).rq = s.rq := rfl
@[simp] theorem storeFaBuf_mem (i : Nat) (b : Byte) : (storeFaBuf i b s).mem = s.mem := rfl
@[simp] theorem storeFaBuf_rbin (i : Nat) (b : Byte) : (storeFaBuf i b s).rbin = s.rbin := rfl
@[simp] theorem storeFaBuf_rgray (i : Nat) (b : Byte) : (storeFaBuf i b s).rgray = s.rgray := rfl
@[simp] theorem storeFaBuf_wq (i : Nat) (b : Byte) : (storeFaBuf i b s).wq = s.wq := rfl
@[simp] theorem storeFaBuf_faIn (i : Nat) (b : Byte) : (storeFaBuf i b s).faIn = s.faIn := rfl
@[simp] theorem storeFaBuf_faPos (i : Nat) (b : Byte) : (storeFaBuf i b s).faPos = s.faPos := rfl
@[simp] theorem storeFaBuf_faBuf (i : Nat) (b : Byte) : (storeFaBuf i b s).faBuf = s.faBuf.setIfInBounds i b := rfl
@[simp] theorem storeFaBuf_cfgQ (i : Nat) (b : Byte) : (storeFaBuf i b s).cfgQ = s.cfgQ := rfl
@[simp] theorem storeFaBuf_stage (i : Nat) (b : Byte) : (storeFaBuf i b s).stage = s.stage := rfl
@[simp] theorem storeFaBuf_txActive (i : Nat) (b : Byte) : (storeFaBuf i b s).txActive = s.txActive := rfl
@[simp] theorem storeFaBuf_txBuf (i : Nat) (b : Byte) : (storeFaBuf i b s).txBuf = s.txBuf := rfl
@[simp] theorem storeFaBuf_txLen (i : Nat) (b : Byte) : (storeFaBuf i b s).txLen = s.txLen := rfl
@[simp] theorem storeFaBuf_txIdx (i : Nat) (b : Byte) : (storeFaBuf i b s).txIdx = s.txIdx := rfl
@[simp] theorem storeFaBuf_bcastEvt (i : Nat) (b : Byte) : (storeFaBuf i b s).bcastEvt = s.bcastEvt := rfl
@[simp] theorem storeFaBuf_txcEvt (i : Nat) (b : Byte) : (storeFaBuf i b s).txcEvt = s.txcEvt := rfl
@[simp] theorem storeFaBuf_diagValid (i : Nat) (b : Byte) : (storeFaBuf i b s).diagValid = s.diagValid := rfl
@[simp] theorem storeFaBuf_diagKind (i : Nat) (b : Byte) : (storeFaBuf i b s).diagKind = s.diagKind := rfl
@[simp] theorem storeFaBuf_outFrame (i : Nat) (b : Byte) : (storeFaBuf i b s).outFrame = s.outFrame := rfl
@[simp] theorem storeFaBuf_outLen (i : Nat) (b : Byte) : (storeFaBuf i b s).outLen = s.outLen := rfl
@[simp] theorem storeFaBuf_wgPrev (i : Nat) (b : Byte) : (storeFaBuf i b s).wgPrev = s.wgPrev := rfl
@[simp] theorem storeFaBuf_wgChanged (i : Nat) (b : Byte) : (storeFaBuf i b s).wgChanged = s.wgChanged := rfl
@[simp] theorem storeFaBuf_rgPrev (i : Nat) (b : Byte) : (storeFaBuf i b s).rgPrev = s.rgPrev := rfl
@[simp] theorem storeFaBuf_rgChanged (i : Nat) (b : Byte) : (storeFaBuf i b s).rgChanged = s.rgChanged := rfl
@[simp] theorem storeFaBuf_stimulus (i : Nat) (b : Byte) : (storeFaBuf i b s).stimulus = s.stimulus := rfl

/-! ### driveProducer: The Producer (R289). -/

@[simp] theorem driveProducer_par (en : Bool) (b : Byte) : (driveProducer en b s).par = s.par := rfl
@[simp] theorem driveProducer_ports (en : Bool) (b : Byte) : (driveProducer en b s).ports = { s.ports with wrEn := en, wrData := b } := rfl
@[simp] theorem driveProducer_wRst (en : Bool) (b : Byte) : (driveProducer en b s).wRst = s.wRst := rfl
@[simp] theorem driveProducer_rRst (en : Bool) (b : Byte) : (driveProducer en b s).rRst = s.rRst := rfl
@[simp] theorem driveProducer_wbin (en : Bool) (b : Byte) : (driveProducer en b s).wbin = s.wbin := rfl
@[simp] theorem driveProducer_wgray (en : Bool) (b : Byte) : (driveProducer en b s).wgray = s.wgray := rfl
@[simp] theorem driveProducer_rq (en : Bool) (b : Byte) : (driveProducer en b s).rq = s.rq := rfl
@[simp] theorem driveProducer_mem (en : Bool) (b : Byte) : (driveProducer en b s).mem = s.mem := rfl
@[simp] theorem driveProducer_rbin (en : Bool) (b : Byte) : (driveProducer en b s).rbin = s.rbin := rfl
@[simp] theorem driveProducer_rgray (en : Bool) (b : Byte) : (driveProducer en b s).rgray = s.rgray := rfl
@[simp] theorem driveProducer_wq (en : Bool) (b : Byte) : (driveProducer en b s).wq = s.wq := rfl
@[simp] theorem driveProducer_faIn (en : Bool) (b : Byte) : (driveProducer en b s).faIn = s.faIn := rfl
@[simp] theorem driveProducer_faPos (en : Bool) (b : Byte) : (driveProducer en b s).faPos = s.faPos := rfl
@[simp] theorem driveProducer_faBuf (en : Bool) (b : Byte) : (driveProducer en b s).faBuf = s.faBuf := rfl
@[simp] theorem driveProducer_cfgQ (en : Bool) (b : Byte) : (driveProducer en b s).cfgQ = s.cfgQ := rfl
@[simp] theorem driveProducer_stage (en : Bool) (b : Byte) : (driveProducer en b s).stage = s.stage := rfl
@[simp] theorem driveProducer_txActive (en : Bool) (b : Byte) : (driveProducer en b s).txActive = s.txActive := rfl
@[simp] theorem driveProducer_txBuf (en : Bool) (b : Byte) : (driveProducer en b s).txBuf = s.txBuf := rfl
@[simp] theorem driveProducer_txLen (en : Bool) (b : Byte) : (driveProducer en b s).txLen = s.txLen := rfl
@[simp] theorem driveProducer_txIdx (en : Bool) (b : Byte) : (driveProducer en b s).txIdx = s.txIdx := rfl
@[simp] theorem driveProducer_bcastEvt (en : Bool) (b : Byte) : (driveProducer en b s).bcastEvt = s.bcastEvt := rfl
@[simp] theorem driveProducer_txcEvt (en : Bool) (b : Byte) : (driveProducer en b s).txcEvt = s.txcEvt := rfl
@[simp] theorem driveProducer_diagValid (en : Bool) (b : Byte) : (driveProducer en b s).diagValid = s.diagValid := rfl
@[simp] theorem driveProducer_diagKind (en : Bool) (b : Byte) : (driveProducer en b s).diagKind = s.diagKind := rfl
@[simp] theorem driveProducer_outFrame (en : Bool) (b : Byte) : (driveProducer en b s).outFrame = s.outFrame := rfl
@[simp] theorem driveProducer_outLen (en : Bool) (b : Byte) : (driveProducer en b s).outLen = s.outLen := rfl
@[simp] theorem driveProducer_wgPrev (en : Bool) (b : Byte) : (driveProducer en b s).wgPrev = s.wgPrev := rfl
@[simp] theorem driveProducer_wgChanged (en : Bool) (b : Byte) : (driveProducer en b s).wgChanged = s.wgChanged := rfl
@[simp] theorem driveProducer_rgPrev (en : Bool) (b : Byte) : (driveProducer en b s).rgPrev = s.rgPrev := rfl
@[simp] theorem driveProducer_rgChanged (en : Bool) (b : Byte) : (driveProducer en b s).rgChanged = s.rgChanged := rfl
@[simp] theorem driveProducer_stimulus (en : Bool) (b : Byte) : (driveProducer en b s).stimulus = s.stimulus.tail := rfl

/-! ### driveTransport: The Transport (R289). -/

@[simp] theorem driveTransport_par (r : Bool) : (driveTransport r s).par = s.par := rfl
@[simp] theorem driveTransport_ports (r : Bool) : (driveTransport r s).ports = { s.ports with txReady := r } := rfl
@[simp] theorem driveTransport_wRst (r : Bool) : (driveTransport r s).wRst = s.wRst := rfl
@[simp] theorem driveTransport_rRst (r : Bool) : (driveTransport r s).rRst = s.rRst := rfl
@[simp] theorem driveTransport_wbin (r : Bool) : (driveTransport r s).wbin = s.wbin := rfl
@[simp] theorem driveTransport_wgray (r : Bool) : (driveTransport r s).wgray = s.wgray := rfl
@[simp] theorem driveTransport_rq (r : Bool) : (driveTransport r s).rq = s.rq := rfl
@[simp] theorem driveTransport_mem (r : Bool) : (driveTransport r s).mem = s.mem := rfl
@[simp] theorem driveTransport_rbin (r : Bool) : (driveTransport r s).rbin = s.rbin := rfl
@[simp] theorem driveTransport_rgray (r : Bool) : (driveTransport r s).rgray = s.rgray := rfl
@[simp] theorem driveTransport_wq (r : Bool) : (driveTransport r s).wq = s.wq := rfl
@[simp] theorem driveTransport_faIn (r : Bool) : (driveTransport r s).faIn = s.faIn := rfl
@[simp] theorem driveTransport_faPos (r : Bool) : (driveTransport r s).faPos = s.faPos := rfl
@[simp] theorem driveTransport_faBuf (r : Bool) : (driveTransport r s).faBuf = s.faBuf := rfl
@[simp] theorem driveTransport_cfgQ (r : Bool) : (driveTransport r s).cfgQ = s.cfgQ := rfl
@[simp] theorem driveTransport_stage (r : Bool) : (driveTransport r s).stage = s.stage := rfl
@[simp] theorem driveTransport_txActive (r : Bool) : (driveTransport r s).txActive = s.txActive := rfl
@[simp] theorem driveTransport_txBuf (r : Bool) : (driveTransport r s).txBuf = s.txBuf := rfl
@[simp] theorem driveTransport_txLen (r : Bool) : (driveTransport r s).txLen = s.txLen := rfl
@[simp] theorem driveTransport_txIdx (r : Bool) : (driveTransport r s).txIdx = s.txIdx := rfl
@[simp] theorem driveTransport_bcastEvt (r : Bool) : (driveTransport r s).bcastEvt = s.bcastEvt := rfl
@[simp] theorem driveTransport_txcEvt (r : Bool) : (driveTransport r s).txcEvt = s.txcEvt := rfl
@[simp] theorem driveTransport_diagValid (r : Bool) : (driveTransport r s).diagValid = s.diagValid := rfl
@[simp] theorem driveTransport_diagKind (r : Bool) : (driveTransport r s).diagKind = s.diagKind := rfl
@[simp] theorem driveTransport_outFrame (r : Bool) : (driveTransport r s).outFrame = s.outFrame := rfl
@[simp] theorem driveTransport_outLen (r : Bool) : (driveTransport r s).outLen = s.outLen := rfl
@[simp] theorem driveTransport_wgPrev (r : Bool) : (driveTransport r s).wgPrev = s.wgPrev := rfl
@[simp] theorem driveTransport_wgChanged (r : Bool) : (driveTransport r s).wgChanged = s.wgChanged := rfl
@[simp] theorem driveTransport_rgPrev (r : Bool) : (driveTransport r s).rgPrev = s.rgPrev := rfl
@[simp] theorem driveTransport_rgChanged (r : Bool) : (driveTransport r s).rgChanged = s.rgChanged := rfl
@[simp] theorem driveTransport_stimulus (r : Bool) : (driveTransport r s).stimulus = s.stimulus.tail := rfl

/-! ### driveHost: The Host (R289). -/

@[simp] theorem driveHost_par (h : HostPorts) : (driveHost h s).par = s.par := rfl
@[simp] theorem driveHost_ports (h : HostPorts) : (driveHost h s).ports = { s.ports with host := h } := rfl
@[simp] theorem driveHost_wRst (h : HostPorts) : (driveHost h s).wRst = s.wRst := rfl
@[simp] theorem driveHost_rRst (h : HostPorts) : (driveHost h s).rRst = s.rRst := rfl
@[simp] theorem driveHost_wbin (h : HostPorts) : (driveHost h s).wbin = s.wbin := rfl
@[simp] theorem driveHost_wgray (h : HostPorts) : (driveHost h s).wgray = s.wgray := rfl
@[simp] theorem driveHost_rq (h : HostPorts) : (driveHost h s).rq = s.rq := rfl
@[simp] theorem driveHost_mem (h : HostPorts) : (driveHost h s).mem = s.mem := rfl
@[simp] theorem driveHost_rbin (h : HostPorts) : (driveHost h s).rbin = s.rbin := rfl
@[simp] theorem driveHost_rgray (h : HostPorts) : (driveHost h s).rgray = s.rgray := rfl
@[simp] theorem driveHost_wq (h : HostPorts) : (driveHost h s).wq = s.wq := rfl
@[simp] theorem driveHost_faIn (h : HostPorts) : (driveHost h s).faIn = s.faIn := rfl
@[simp] theorem driveHost_faPos (h : HostPorts) : (driveHost h s).faPos = s.faPos := rfl
@[simp] theorem driveHost_faBuf (h : HostPorts) : (driveHost h s).faBuf = s.faBuf := rfl
@[simp] theorem driveHost_cfgQ (h : HostPorts) : (driveHost h s).cfgQ = s.cfgQ := rfl
@[simp] theorem driveHost_stage (h : HostPorts) : (driveHost h s).stage = s.stage := rfl
@[simp] theorem driveHost_txActive (h : HostPorts) : (driveHost h s).txActive = s.txActive := rfl
@[simp] theorem driveHost_txBuf (h : HostPorts) : (driveHost h s).txBuf = s.txBuf := rfl
@[simp] theorem driveHost_txLen (h : HostPorts) : (driveHost h s).txLen = s.txLen := rfl
@[simp] theorem driveHost_txIdx (h : HostPorts) : (driveHost h s).txIdx = s.txIdx := rfl
@[simp] theorem driveHost_bcastEvt (h : HostPorts) : (driveHost h s).bcastEvt = s.bcastEvt := rfl
@[simp] theorem driveHost_txcEvt (h : HostPorts) : (driveHost h s).txcEvt = s.txcEvt := rfl
@[simp] theorem driveHost_diagValid (h : HostPorts) : (driveHost h s).diagValid = s.diagValid := rfl
@[simp] theorem driveHost_diagKind (h : HostPorts) : (driveHost h s).diagKind = s.diagKind := rfl
@[simp] theorem driveHost_outFrame (h : HostPorts) : (driveHost h s).outFrame = s.outFrame := rfl
@[simp] theorem driveHost_outLen (h : HostPorts) : (driveHost h s).outLen = s.outLen := rfl
@[simp] theorem driveHost_wgPrev (h : HostPorts) : (driveHost h s).wgPrev = s.wgPrev := rfl
@[simp] theorem driveHost_wgChanged (h : HostPorts) : (driveHost h s).wgChanged = s.wgChanged := rfl
@[simp] theorem driveHost_rgPrev (h : HostPorts) : (driveHost h s).rgPrev = s.rgPrev := rfl
@[simp] theorem driveHost_rgChanged (h : HostPorts) : (driveHost h s).rgChanged = s.rgChanged := rfl
@[simp] theorem driveHost_stimulus (h : HostPorts) : (driveHost h s).stimulus = s.stimulus.tail := rfl

/-! ### wEdgeInReset: A `wclk` edge in reset (R331). -/

@[simp] theorem wEdgeInReset_par : (wEdgeInReset s).par = s.par := rfl
@[simp] theorem wEdgeInReset_ports : (wEdgeInReset s).ports = s.ports := rfl
@[simp] theorem wEdgeInReset_wRst : (wEdgeInReset s).wRst = s.wRst.clock s.ports.rstN := rfl
@[simp] theorem wEdgeInReset_rRst : (wEdgeInReset s).rRst = s.rRst := rfl
@[simp] theorem wEdgeInReset_wbin : (wEdgeInReset s).wbin = s.wbin := rfl
@[simp] theorem wEdgeInReset_wgray : (wEdgeInReset s).wgray = s.wgray := rfl
@[simp] theorem wEdgeInReset_rq : (wEdgeInReset s).rq = s.rq := rfl
@[simp] theorem wEdgeInReset_mem : (wEdgeInReset s).mem = s.mem := rfl
@[simp] theorem wEdgeInReset_rbin : (wEdgeInReset s).rbin = s.rbin := rfl
@[simp] theorem wEdgeInReset_rgray : (wEdgeInReset s).rgray = s.rgray := rfl
@[simp] theorem wEdgeInReset_wq : (wEdgeInReset s).wq = s.wq := rfl
@[simp] theorem wEdgeInReset_faIn : (wEdgeInReset s).faIn = s.faIn := rfl
@[simp] theorem wEdgeInReset_faPos : (wEdgeInReset s).faPos = s.faPos := rfl
@[simp] theorem wEdgeInReset_faBuf : (wEdgeInReset s).faBuf = s.faBuf := rfl
@[simp] theorem wEdgeInReset_cfgQ : (wEdgeInReset s).cfgQ = s.cfgQ := rfl
@[simp] theorem wEdgeInReset_stage : (wEdgeInReset s).stage = s.stage := rfl
@[simp] theorem wEdgeInReset_txActive : (wEdgeInReset s).txActive = s.txActive := rfl
@[simp] theorem wEdgeInReset_txBuf : (wEdgeInReset s).txBuf = s.txBuf := rfl
@[simp] theorem wEdgeInReset_txLen : (wEdgeInReset s).txLen = s.txLen := rfl
@[simp] theorem wEdgeInReset_txIdx : (wEdgeInReset s).txIdx = s.txIdx := rfl
@[simp] theorem wEdgeInReset_bcastEvt : (wEdgeInReset s).bcastEvt = s.bcastEvt := rfl
@[simp] theorem wEdgeInReset_txcEvt : (wEdgeInReset s).txcEvt = s.txcEvt := rfl
@[simp] theorem wEdgeInReset_diagValid : (wEdgeInReset s).diagValid = s.diagValid := rfl
@[simp] theorem wEdgeInReset_diagKind : (wEdgeInReset s).diagKind = s.diagKind := rfl
@[simp] theorem wEdgeInReset_outFrame : (wEdgeInReset s).outFrame = s.outFrame := rfl
@[simp] theorem wEdgeInReset_outLen : (wEdgeInReset s).outLen = s.outLen := rfl
@[simp] theorem wEdgeInReset_wgPrev : (wEdgeInReset s).wgPrev = s.wgPrev := rfl
@[simp] theorem wEdgeInReset_wgChanged : (wEdgeInReset s).wgChanged = s.wgChanged := rfl
@[simp] theorem wEdgeInReset_rgPrev : (wEdgeInReset s).rgPrev = s.rgPrev := rfl
@[simp] theorem wEdgeInReset_rgChanged : (wEdgeInReset s).rgChanged = false := rfl
@[simp] theorem wEdgeInReset_stimulus : (wEdgeInReset s).stimulus = s.stimulus.tail := rfl

/-! ### rEdgeInReset: An `rclk` edge in reset (R331). -/

@[simp] theorem rEdgeInReset_par : (rEdgeInReset s).par = s.par := rfl
@[simp] theorem rEdgeInReset_ports : (rEdgeInReset s).ports = s.ports := rfl
@[simp] theorem rEdgeInReset_wRst : (rEdgeInReset s).wRst = s.wRst := rfl
@[simp] theorem rEdgeInReset_rRst : (rEdgeInReset s).rRst = s.rRst.clock s.ports.rstN := rfl
@[simp] theorem rEdgeInReset_wbin : (rEdgeInReset s).wbin = s.wbin := rfl
@[simp] theorem rEdgeInReset_wgray : (rEdgeInReset s).wgray = s.wgray := rfl
@[simp] theorem rEdgeInReset_rq : (rEdgeInReset s).rq = s.rq := rfl
@[simp] theorem rEdgeInReset_mem : (rEdgeInReset s).mem = s.mem := rfl
@[simp] theorem rEdgeInReset_rbin : (rEdgeInReset s).rbin = s.rbin := rfl
@[simp] theorem rEdgeInReset_rgray : (rEdgeInReset s).rgray = s.rgray := rfl
@[simp] theorem rEdgeInReset_wq : (rEdgeInReset s).wq = s.wq := rfl
@[simp] theorem rEdgeInReset_faIn : (rEdgeInReset s).faIn = s.faIn := rfl
@[simp] theorem rEdgeInReset_faPos : (rEdgeInReset s).faPos = s.faPos := rfl
@[simp] theorem rEdgeInReset_faBuf : (rEdgeInReset s).faBuf = s.faBuf := rfl
@[simp] theorem rEdgeInReset_cfgQ : (rEdgeInReset s).cfgQ = s.cfgQ := rfl
@[simp] theorem rEdgeInReset_stage : (rEdgeInReset s).stage = s.stage := rfl
@[simp] theorem rEdgeInReset_txActive : (rEdgeInReset s).txActive = s.txActive := rfl
@[simp] theorem rEdgeInReset_txBuf : (rEdgeInReset s).txBuf = s.txBuf := rfl
@[simp] theorem rEdgeInReset_txLen : (rEdgeInReset s).txLen = s.txLen := rfl
@[simp] theorem rEdgeInReset_txIdx : (rEdgeInReset s).txIdx = s.txIdx := rfl
@[simp] theorem rEdgeInReset_bcastEvt : (rEdgeInReset s).bcastEvt = s.bcastEvt := rfl
@[simp] theorem rEdgeInReset_txcEvt : (rEdgeInReset s).txcEvt = s.txcEvt := rfl
@[simp] theorem rEdgeInReset_diagValid : (rEdgeInReset s).diagValid = s.diagValid := rfl
@[simp] theorem rEdgeInReset_diagKind : (rEdgeInReset s).diagKind = s.diagKind := rfl
@[simp] theorem rEdgeInReset_outFrame : (rEdgeInReset s).outFrame = s.outFrame := rfl
@[simp] theorem rEdgeInReset_outLen : (rEdgeInReset s).outLen = s.outLen := rfl
@[simp] theorem rEdgeInReset_wgPrev : (rEdgeInReset s).wgPrev = s.wgPrev := rfl
@[simp] theorem rEdgeInReset_wgChanged : (rEdgeInReset s).wgChanged = false := rfl
@[simp] theorem rEdgeInReset_rgPrev : (rEdgeInReset s).rgPrev = s.rgPrev := rfl
@[simp] theorem rEdgeInReset_rgChanged : (rEdgeInReset s).rgChanged = s.rgChanged := rfl
@[simp] theorem rEdgeInReset_stimulus : (rEdgeInReset s).stimulus = s.stimulus.tail := rfl

/-! ### finishW: what it leaves alone whatever the next event is -/

@[simp] theorem finishW_par : (finishW s).par = s.par := by unfold finishW; split <;> rfl
@[simp] theorem finishW_ports : (finishW s).ports = s.ports := by unfold finishW; split <;> rfl
@[simp] theorem finishW_wRst : (finishW s).wRst = s.wRst := by unfold finishW; split <;> rfl
@[simp] theorem finishW_rRst : (finishW s).rRst = s.rRst := by unfold finishW; split <;> rfl
@[simp] theorem finishW_wbin : (finishW s).wbin = s.wbin := by unfold finishW; split <;> rfl
@[simp] theorem finishW_wgray : (finishW s).wgray = s.wgray := by unfold finishW; split <;> rfl
@[simp] theorem finishW_mem : (finishW s).mem = s.mem := by unfold finishW; split <;> rfl
@[simp] theorem finishW_rbin : (finishW s).rbin = s.rbin := by unfold finishW; split <;> rfl
@[simp] theorem finishW_rgray : (finishW s).rgray = s.rgray := by unfold finishW; split <;> rfl
@[simp] theorem finishW_wq : (finishW s).wq = s.wq := by unfold finishW; split <;> rfl
@[simp] theorem finishW_faIn : (finishW s).faIn = s.faIn := by unfold finishW; split <;> rfl
@[simp] theorem finishW_faPos : (finishW s).faPos = s.faPos := by unfold finishW; split <;> rfl
@[simp] theorem finishW_faBuf : (finishW s).faBuf = s.faBuf := by unfold finishW; split <;> rfl
@[simp] theorem finishW_cfgQ : (finishW s).cfgQ = s.cfgQ := by unfold finishW; split <;> rfl
@[simp] theorem finishW_stage : (finishW s).stage = s.stage := by unfold finishW; split <;> rfl
@[simp] theorem finishW_txActive : (finishW s).txActive = s.txActive := by unfold finishW; split <;> rfl
@[simp] theorem finishW_txBuf : (finishW s).txBuf = s.txBuf := by unfold finishW; split <;> rfl
@[simp] theorem finishW_txLen : (finishW s).txLen = s.txLen := by unfold finishW; split <;> rfl
@[simp] theorem finishW_txIdx : (finishW s).txIdx = s.txIdx := by unfold finishW; split <;> rfl
@[simp] theorem finishW_bcastEvt : (finishW s).bcastEvt = s.bcastEvt := by unfold finishW; split <;> rfl
@[simp] theorem finishW_txcEvt : (finishW s).txcEvt = s.txcEvt := by unfold finishW; split <;> rfl
@[simp] theorem finishW_diagValid : (finishW s).diagValid = s.diagValid := by unfold finishW; split <;> rfl
@[simp] theorem finishW_diagKind : (finishW s).diagKind = s.diagKind := by unfold finishW; split <;> rfl
@[simp] theorem finishW_outFrame : (finishW s).outFrame = s.outFrame := by unfold finishW; split <;> rfl
@[simp] theorem finishW_outLen : (finishW s).outLen = s.outLen := by unfold finishW; split <;> rfl
@[simp] theorem finishW_wgPrev : (finishW s).wgPrev = s.wgPrev := by unfold finishW; split <;> rfl
@[simp] theorem finishW_wgChanged : (finishW s).wgChanged = s.wgChanged := by unfold finishW; split <;> rfl
@[simp] theorem finishW_rgPrev : (finishW s).rgPrev = s.rgPrev := by unfold finishW; split <;> rfl

/-! ### finishR: what it leaves alone whatever the next event is -/

@[simp] theorem finishR_par : (finishR s).par = s.par := by unfold finishR; split <;> rfl
@[simp] theorem finishR_ports : (finishR s).ports = s.ports := by unfold finishR; split <;> rfl
@[simp] theorem finishR_wRst : (finishR s).wRst = s.wRst := by unfold finishR; split <;> rfl
@[simp] theorem finishR_rRst : (finishR s).rRst = s.rRst := by unfold finishR; split <;> rfl
@[simp] theorem finishR_wbin : (finishR s).wbin = s.wbin := by unfold finishR; split <;> rfl
@[simp] theorem finishR_wgray : (finishR s).wgray = s.wgray := by unfold finishR; split <;> rfl
@[simp] theorem finishR_rq : (finishR s).rq = s.rq := by unfold finishR; split <;> rfl
@[simp] theorem finishR_mem : (finishR s).mem = s.mem := by unfold finishR; split <;> rfl
@[simp] theorem finishR_rbin : (finishR s).rbin = s.rbin := by unfold finishR; split <;> rfl
@[simp] theorem finishR_rgray : (finishR s).rgray = s.rgray := by unfold finishR; split <;> rfl
@[simp] theorem finishR_faIn : (finishR s).faIn = s.faIn := by unfold finishR; split <;> rfl
@[simp] theorem finishR_faPos : (finishR s).faPos = s.faPos := by unfold finishR; split <;> rfl
@[simp] theorem finishR_faBuf : (finishR s).faBuf = s.faBuf := by unfold finishR; split <;> rfl
@[simp] theorem finishR_cfgQ : (finishR s).cfgQ = s.cfgQ := by unfold finishR; split <;> rfl
@[simp] theorem finishR_stage : (finishR s).stage = s.stage := by unfold finishR; split <;> rfl
@[simp] theorem finishR_txActive : (finishR s).txActive = s.txActive := by unfold finishR; split <;> rfl
@[simp] theorem finishR_txBuf : (finishR s).txBuf = s.txBuf := by unfold finishR; split <;> rfl
@[simp] theorem finishR_txLen : (finishR s).txLen = s.txLen := by unfold finishR; split <;> rfl
@[simp] theorem finishR_txIdx : (finishR s).txIdx = s.txIdx := by unfold finishR; split <;> rfl
@[simp] theorem finishR_bcastEvt : (finishR s).bcastEvt = s.bcastEvt := by unfold finishR; split <;> rfl
@[simp] theorem finishR_txcEvt : (finishR s).txcEvt = s.txcEvt := by unfold finishR; split <;> rfl
@[simp] theorem finishR_diagValid : (finishR s).diagValid = s.diagValid := by unfold finishR; split <;> rfl
@[simp] theorem finishR_diagKind : (finishR s).diagKind = s.diagKind := by unfold finishR; split <;> rfl
@[simp] theorem finishR_outFrame : (finishR s).outFrame = s.outFrame := by unfold finishR; split <;> rfl
@[simp] theorem finishR_outLen : (finishR s).outLen = s.outLen := by unfold finishR; split <;> rfl
@[simp] theorem finishR_wgPrev : (finishR s).wgPrev = s.wgPrev := by unfold finishR; split <;> rfl
@[simp] theorem finishR_rgPrev : (finishR s).rgPrev = s.rgPrev := by unfold finishR; split <;> rfl
@[simp] theorem finishR_rgChanged : (finishR s).rgChanged = s.rgChanged := by unfold finishR; split <;> rfl

end Sys2Proof.Machine
end

