-- ==== Sys2Proof/Laws/Ops.lean ====
section
/-! SUPPORT. One lemma per shared operation that says everything it can do: the storage, the synchronisers, the two edges'
own updates, the outcomes, the assembler's choice, the dispatcher's choice, the transitions of the configurator. -/
namespace Sys2Proof.Machine

open Sys2Proof

/-! ### Storage -/

/-- Reading a storage with nothing listed. -/
@[simp] theorem memRead_nil (a : Nat) : memRead [] a = unwrittenByte := rfl

/-- Reading a storage with a first entry. -/
theorem memRead_cons (c : Host.Cell) (m : List Host.Cell) (b : Nat) :
    memRead (c :: m) b = if b = c.1 then c.2 else memRead m b := by
  by_cases h : c.1 = b
  · simp [memRead, h]
  · simp [memRead, h, Ne.symm h]

/-- Erasing an entry leaves the others. -/
theorem memRead_memErase (m : List Host.Cell) (a b : Nat) :
    memRead (memErase m a) b = if b = a then unwrittenByte else memRead m b := by
  induction m with
  | nil => simp [memErase]
  | cons c cs ih =>
    by_cases hc : c.1 = a
    · rw [show memErase (c :: cs) a = memErase cs a by simp [memErase, hc], ih, memRead_cons]
      split <;> simp_all
    · rw [show memErase (c :: cs) a = c :: memErase cs a by simp [memErase, hc], memRead_cons, memRead_cons, ih]
      split <;> split <;> simp_all

/-- Inserting an entry gives its byte there and leaves the others. -/
theorem memRead_memInsert {m : List Host.Cell} {a : Nat} (ha : ∀ c ∈ m, c.1 ≠ a) (b : Nat) (v : Byte) :
    memRead (memInsert m a v) b = if b = a then v else memRead m b := by
  induction m with
  | nil => simp [memInsert, memRead_cons]
  | cons c cs ih =>
    have hc : c.1 ≠ a := ha c List.mem_cons_self
    unfold memInsert
    split
    · simp only [memRead_cons]
    · simp only [memRead_cons, ih fun x hx => ha x (List.mem_cons_of_mem _ hx)]
      split <;> split <;> simp_all

/-- Reading after a write gives the value written at that index and the old contents elsewhere. -/
theorem memRead_memWrite (m : List Host.Cell) (a b : Nat) (v : Byte) :
    memRead (memWrite m a v) b = if b = a then v else memRead m b := by
  unfold memWrite
  split
  · next h => rw [memRead_memErase, h]
  · rw [memRead_memInsert (by simp [memErase]), memRead_memErase]
    split <;> rfl

/-- What an insertion lists. -/
theorem mem_memInsert {m : List Host.Cell} {a : Nat} {v : Byte} {c : Host.Cell} (h : c ∈ memInsert m a v) :
    c = (a, v) ∨ c ∈ m := by
  induction m with
  | nil => simpa [memInsert] using h
  | cons x xs ih =>
    unfold memInsert at h
    split at h
    · simpa using h
    · rcases List.mem_cons.1 h with h | h
      · exact .inr (h ▸ List.mem_cons_self)
      · exact (ih h).imp id (List.mem_cons_of_mem _)

/-- Rising addresses rise after an insertion of an address that was not listed. -/
theorem pairwise_memInsert {m : List Host.Cell} {a : Nat} (v : Byte) (ha : ∀ c ∈ m, c.1 ≠ a)
    (h : (m.map Prod.fst).Pairwise (· < ·)) : ((memInsert m a v).map Prod.fst).Pairwise (· < ·) := by
  induction m with
  | nil => simp [memInsert]
  | cons x xs ih =>
    have hx : x.1 ≠ a := ha x List.mem_cons_self
    simp only [List.map_cons, List.pairwise_cons] at h
    unfold memInsert
    split
    · next hlt =>
      simp only [List.map_cons, List.pairwise_cons, List.mem_cons]
      refine ⟨?_, h⟩
      rintro b (rfl | hb)
      · exact hlt
      · exact hlt.trans (h.1 b hb)
    · simp only [List.map_cons, List.pairwise_cons]
      refine ⟨fun b hb => ?_, ih (fun c hc => ha c (List.mem_cons_of_mem _ hc)) h.2⟩
      obtain ⟨c, hc, rfl⟩ := List.mem_map.1 hb
      rcases mem_memInsert hc with rfl | hc
      · simp only; omega
      · exact h.1 _ (List.mem_map_of_mem hc)

/-- The storage keeps its canonical form under a write inside it. -/
theorem memWf_memWrite {p : Params} {m : List Host.Cell} {a : Nat} (v : Byte) (h : memWf p m = true) (ha : a < p.depth) :
    memWf p (memWrite m a v) = true := by
  simp only [memWf, Bool.and_eq_true, decide_eq_true_eq, List.all_eq_true, bne_iff_ne] at h ⊢
  have he : ((memErase m a).map Prod.fst).Pairwise (· < ·) := h.1.sublist (List.filter_sublist.map _)
  have hm : ∀ c ∈ memErase m a, c.1 < p.depth ∧ c.2 ≠ unwrittenByte := fun c hc => h.2 c (List.mem_of_mem_filter hc)
  unfold memWrite
  split
  · exact ⟨he, hm⟩
  · next hv =>
    refine ⟨pairwise_memInsert v (by simp [memErase]) he, fun c hc => ?_⟩
    rcases mem_memInsert hc with rfl | hc
    · exact ⟨ha, hv⟩
    · exact hm c hc

/-- The empty storage has the canonical form. -/
theorem memWf_nil (p : Params) : memWf p [] = true := by simp [memWf]

/-- The storage of the reset state has the canonical form. -/
theorem memWf_reset : memWf State.reset.par State.reset.mem = true := memWf_nil _

/-- A POP reads the byte at the read pointer, wherever that is inside the storage. -/
theorem fifoRead_ok {s : State} {b : Byte} :
    fifoRead s = .ok b ↔ s.rbin.toNat < s.par.depth ∧ memRead s.mem s.rbin.toNat = b := by
  unfold fifoRead
  split <;> simp_all

/-! ### Synchronisers -/

/-- A shift takes the new value first and drops the oldest. -/
theorem Sync.toList_shift (q : Sync) (g : Ptr) : (q.shift g).toList = g :: q.toList.dropLast := by
  obtain ⟨l, x⟩ := q
  simp only [Sync.shift, Sync.toList, List.dropLast_concat]
  rcases List.eq_nil_or_concat l with rfl | ⟨ys, y, rfl⟩
  · rfl
  · rw [List.concat_eq_append, ← List.cons_append, List.dropLast_concat]
    simp

/-- A shift keeps the number of flip-flops. -/
@[simp] theorem Sync.length_shift (q : Sync) (g : Ptr) : (q.shift g).stages.length = q.stages.length := by
  simp [Sync.shift]

/-- A sample is the current value or, if it has changed and the draw says so, the previous one (R13). -/
theorem sample_cases (c : Bool) (d : Draw) (g gPrev : Ptr) :
    sample c d g gPrev = g ∨ c = true ∧ sample c d g gPrev = gPrev := by
  cases c <;> cases d <;> simp [sample]

/-! ### The edges' own updates -/

/-- What an R edge does besides its row (R137). -/
theorem finishR_of_rclk {s : State} {d : Draw} {rest : List Stimulus} (h : s.stimulus = .rclk d :: rest) :
    finishR s = { s with wq := s.wq.shift (sample s.wgChanged d s.wgray s.wgPrev), wgChanged := false, stimulus := rest } := by
  unfold finishR
  simp [h]

/-- What a W edge does besides its row (R136). -/
theorem finishW_of_wclk {s : State} {d : Draw} {rest : List Stimulus} (h : s.stimulus = .wclk d :: rest) :
    finishW s = { s with rq := s.rq.shift (sample s.rgChanged d s.rgray s.rgPrev), rgChanged := false, stimulus := rest } := by
  unfold finishW
  simp [h]

/-- A W edge is a step of the W domain exactly when the domain is out of reset. -/
theorem wStep_of_wclk {s : State} {d : Draw} {rest : List Stimulus} (h : s.stimulus = .wclk d :: rest) :
    wStep s = (s.ports.rstN && s.wRst.ff2) := by
  unfold wStep
  simp [h]

/-- An R edge is a step of the R domain exactly when the domain is out of reset. -/
theorem rStep_of_rclk {s : State} {d : Draw} {rest : List Stimulus} (h : s.stimulus = .rclk d :: rest) :
    rStep s = (s.ports.rstN && s.rRst.ff2) := by
  unfold rStep
  simp [h]

/-! ### Outcomes -/

/-- A guarded operation gives a next state exactly when it is selected and gives it. -/
theorem whenSelected_next {c : Bool} {o : Host.Outcome State Fault Refusal} {t : State} :
    whenSelected c o = .next t ↔ c = true ∧ o = .next t := by
  cases c <;> simp [whenSelected]

/-- A guarded operation faults exactly when it is selected and faults. -/
theorem whenSelected_fault {c : Bool} {o : Host.Outcome State Fault Refusal} {f : Fault} :
    whenSelected c o = .fault f ↔ c = true ∧ o = .fault f := by
  cases c <;> simp [whenSelected]

/-- A selected operation is the operation. -/
@[simp] theorem whenSelected_true (o : Host.Outcome State Fault Refusal) : whenSelected true o = o := rfl

/-- A POP gives a next state exactly when it reads a byte and the assembler has a case for it. -/
theorem popByte_next {s t : State} :
    popByte s = .next t ↔
      ∃ b u, fifoRead s = .ok b ∧ assemble b (clearPulses s) = some u ∧ t = finishR (advanceRead u) := by
  unfold popByte
  cases fifoRead s with
  | error f => simp
  | ok b => cases h : assemble b (clearPulses s) <;> simp [h, eq_comm]

/-! ### The transmitter -/

/-- The last byte of a frame ends the transmission (R192). -/
theorem advanceTx_last {s : State} (h : s.txIdx + 1 = s.txLen) : advanceTx s = { s with txActive := false, txIdx := 0 } :=
  if_pos h

/-- Any other byte moves the index on (R192). -/
theorem advanceTx_more {s : State} (h : s.txIdx + 1 ≠ s.txLen) : advanceTx s = { s with txIdx := s.txIdx + 1 } :=
  if_neg h

/-! ### The assembler and the dispatcher -/

/-- The eight cases of a popped byte, with their conditions (R160 to R168). -/
theorem asmCase_cases {sig : AsmSignals} {b : Byte} {c : AsmCase} (h : asmCase sig b = some c) :
    (c = .huntDiscard ∧ sig.faIn = false ∧ b ≠ SYNC) ∨
    (c = .huntSync ∧ sig.faIn = false ∧ b = SYNC) ∨
    (c = .resync ∧ sig.faIn = true ∧ b = SYNC) ∨
    (c = .length ∧ sig.faIn = true ∧ b ≠ SYNC ∧ sig.faPos = 1 ∧ b.toNat ≤ MAX_PAYLOAD) ∨
    (c = .lengthInvalid ∧ sig.faIn = true ∧ b ≠ SYNC ∧ sig.faPos = 1 ∧ MAX_PAYLOAD < b.toNat) ∨
    (c = .messageId ∧ sig.faIn = true ∧ b ≠ SYNC ∧ sig.faPos = 2) ∨
    (c = .payloadByte ∧ sig.faIn = true ∧ b ≠ SYNC ∧ 3 ≤ sig.faPos.toNat ∧ sig.faPos.toNat ≤ MAX_PAYLOAD + 3 ∧
      sig.faPos.toNat < sig.faLen.toNat + 3) ∨
    (c = .checksumByte ∧ sig.faIn = true ∧ b ≠ SYNC ∧ 3 ≤ sig.faPos.toNat ∧ sig.faPos.toNat ≤ MAX_PAYLOAD + 3 ∧
      sig.faPos.toNat = sig.faLen.toNat + 3) := by
  unfold asmCase at h
  split at h
  · split at h <;> simp_all
  · split at h
    · simp_all
    · split at h
      · split at h
        · simp_all
        · simp_all
      · split at h
        · simp_all
        · split at h
          · split at h
            · simp_all
            · split at h <;> simp_all
          · simp_all

/-- Each case is the one taken under its own conditions (R161 to R168). -/
theorem asmCase_of_conditions (sig : AsmSignals) (b : Byte) :
    (sig.faIn = false → b ≠ SYNC → asmCase sig b = some .huntDiscard) ∧
    (sig.faIn = false → b = SYNC → asmCase sig b = some .huntSync) ∧
    (sig.faIn = true → b = SYNC → asmCase sig b = some .resync) ∧
    (sig.faIn = true → b ≠ SYNC → sig.faPos = 1 → b.toNat ≤ MAX_PAYLOAD → asmCase sig b = some .length) ∧
    (sig.faIn = true → b ≠ SYNC → sig.faPos = 1 → MAX_PAYLOAD < b.toNat → asmCase sig b = some .lengthInvalid) ∧
    (sig.faIn = true → b ≠ SYNC → sig.faPos = 2 → asmCase sig b = some .messageId) ∧
    (sig.faIn = true → b ≠ SYNC → 3 ≤ sig.faPos.toNat → sig.faPos.toNat ≤ MAX_PAYLOAD + 3 →
      sig.faPos.toNat < sig.faLen.toNat + 3 → asmCase sig b = some .payloadByte) ∧
    (sig.faIn = true → b ≠ SYNC → 3 ≤ sig.faPos.toNat → sig.faPos.toNat ≤ MAX_PAYLOAD + 3 →
      sig.faPos.toNat = sig.faLen.toNat + 3 → asmCase sig b = some .checksumByte) := by
  have h1 : 3 ≤ sig.faPos.toNat → sig.faPos ≠ 1 := by rintro h e; simp [e] at h
  have h2 : 3 ≤ sig.faPos.toNat → sig.faPos ≠ 2 := by rintro h e; simp [e] at h
  refine ⟨?_, ?_, ?_, ?_, ?_, ?_, ?_, ?_⟩ <;> intros <;> unfold asmCase <;> simp_all

/-- The effect of a case on the state (R161 to R168). -/
def asmEffect (b : Byte) (s : State) : AsmCase → State
  | .huntDiscard => onHuntDiscard s
  | .huntSync => onHuntSync s
  | .resync => onResync s
  | .length => onLength b s
  | .lengthInvalid => onLengthInvalid s
  | .messageId => onMessageId b s
  | .payloadByte => onPayloadByte b s
  | .checksumByte => onChecksumByte b s

/-- The assembler does the one case the byte takes. -/
theorem assemble_eq (b : Byte) (s : State) : assemble b s = (asmCase (asmSignals s) b).map (asmEffect b s) := by
  unfold assemble
  cases asmCase (asmSignals s) b with
  | none => rfl
  | some c => cases c <;> rfl

/-- The effect of a class on the state (R222 to R234). -/
def frameEffect (F : List Byte) (s : State) : FrameClass → State
  | .checksumError => onChecksumError F s
  | .eventMalformed => onEventMalformed F s
  | .functionResponse => onFunctionResponse F s
  | .eventNoErrorAck => onEventNoErrorAck s
  | .eventNoErrorIgnored => onEventNoErrorIgnored s
  | .eventSearchTimeout => onEventSearchTimeout F s
  | .eventRxFail => onEventRxFail s
  | .eventTxComplete => onEventTxComplete s
  | .eventTxCompleteNoCallback => onEventTxCompleteNoCallback s
  | .eventOther => onEventOther F s
  | .broadcast => onBroadcast F s
  | .broadcastNoCallback => onBroadcastNoCallback s
  | .otherMessage => onOtherMessage F s

/-- The dispatcher does the one class the frame has. -/
theorem dispatch_eq (F : List Byte) (s : State) : dispatch F s = frameEffect F s (frameClass (frameSignals s) F) := by
  unfold dispatch
  cases frameClass (frameSignals s) F <;> rfl

/-- A frame row, selected, does its class's effect. -/
theorem exec_frameRow (c : FrameClass) (F : List Byte) (s : State) (h : frameSelects s c F = true) :
    exec (c.row F) s = .next (frameEffect F s c) := by
  cases c <;> simp only [FrameClass.row, exec, execChecksumError, execEventMalformed, execFunctionResponse,
    execEventNoErrorAck, execEventNoErrorIgnored, execEventSearchTimeout, execEventRxFail, execEventTxComplete,
    execEventTxCompleteNoCallback, execEventOther, execBroadcast, execBroadcastNoCallback, execOtherMessage,
    frameEffect, h, whenSelected_true]

/-- An assembler row, selected, does its case's effect. -/
theorem exec_asmRow (c : AsmCase) (b : Byte) (s : State) (h : asmSelects s c b = true) :
    exec (c.row b) s = .next (asmEffect b s c) := by
  have hs : c = .huntSync ∨ c = .resync → b = SYNC := by
    simp only [asmSelects, Bool.and_eq_true, beq_iff_eq] at h
    rcases asmCase_cases h.2 with h | h | h | h | h | h | h | h <;> simp [h.1]
    · exact h.2.2
    · exact h.2.2
  cases c
  case huntSync => cases hs (.inl rfl); simp only [AsmCase.row, exec, execHuntSync, asmEffect, h, whenSelected_true]
  case resync => cases hs (.inr rfl); simp only [AsmCase.row, exec, execResync, asmEffect, h, whenSelected_true]
  all_goals simp only [AsmCase.row, exec, execHuntDiscard, execLength, execLengthInvalid, execMessageId, execPayloadByte,
    execChecksumByte, asmEffect, h, whenSelected_true]

/-! ### The configurator -/

/-- An acknowledgment leads to the next stage (R255, R256). -/
theorem ackStage_stage (s : State) : (ackStage s).stage = nextStage s.cfgQ.role s.stage := by
  unfold ackStage
  cases h : s.stage <;> simp [h, nextStage, ackOpenChannel, loadChid, loadSetChannelId, loadSetPeriod, loadSetFrequency,
    loadOpenChannel]
  cases s.cfgQ.role <;> simp [loadAddressAnnounce]

/-- A restart leads to AssignChannel (R258). -/
theorem restart_stage (s : State) : (restart s).stage = .assignChannel := by
  simp [restart, loadAssign, loadAssignChannel]

end Sys2Proof.Machine
end

