-- ==== Sys2Proof/Laws/PerInstr.lean ====
section
/-! SUPPORT. The `format` column of the opcode table, row by row: the word the encoder writes for an operation is a word of
the row's own format (R113). -/
namespace Sys2Proof.Laws.RowFormat

open Sys2Proof

/-- The formats of the opcode table, the port rows by domain (R113, R114). -/
inductive Format where
  | frame
  | txFrame
  | hostReq
  | asmByte
  | wPort
  | rPort
  deriving DecidableEq, Repr

/-- The format a word is in. -/
def ofWord : TableWord → Format
  | .wPort _ => .wPort
  | .rPort _ => .rPort
  | .hostReq _ => .hostReq
  | .asmByte _ _ => .asmByte
  | .frame _ _ => .frame
  | .txFrame _ _ => .txFrame

/-- The `format` and `domain` columns of the opcode table. -/
def ofRow : Instr → Format
  | .checksumError _ => .frame
  | .eventMalformed _ => .frame
  | .functionResponse _ => .frame
  | .eventNoErrorAck _ => .frame
  | .eventNoErrorIgnored _ => .frame
  | .eventSearchTimeout _ => .frame
  | .eventRxFail _ => .frame
  | .eventTxComplete _ => .frame
  | .eventTxCompleteNoCallback _ => .frame
  | .eventOther _ => .frame
  | .broadcast _ => .frame
  | .broadcastNoCallback _ => .frame
  | .otherMessage _ => .frame
  | .systemReset => .txFrame
  | .capabilityRequest _ => .txFrame
  | .assignChannel _ _ => .txFrame
  | .setChannelId _ _ _ => .txFrame
  | .setPeriod _ => .txFrame
  | .setFrequency _ => .txFrame
  | .setSearchTimeout _ => .txFrame
  | .openChannel => .txFrame
  | .broadcastData _ _ => .txFrame
  | .acknowledgedData _ _ => .txFrame
  | .addressAnnounce _ => .txFrame
  | .hostKReset => .hostReq
  | .hostKCapreq => .hostReq
  | .hostKAssign => .hostReq
  | .hostKChid => .hostReq
  | .hostKPeriod => .hostReq
  | .hostKFreq => .hostReq
  | .hostKStimeout => .hostReq
  | .hostKOpen => .hostReq
  | .hostKBcast => .hostReq
  | .hostKAckdata => .hostReq
  | .hostReservedAB _ => .hostReq
  | .hostReservedCF _ => .hostReq
  | .huntDiscard _ => .asmByte
  | .huntSync => .asmByte
  | .resync => .asmByte
  | .length _ => .asmByte
  | .lengthInvalid _ => .asmByte
  | .messageId _ => .asmByte
  | .payloadByte _ => .asmByte
  | .checksumByte _ => .asmByte
  | .push => .wPort
  | .pushDrop => .wPort
  | .wIdle => .wPort
  | .txByte => .rPort
  | .txStall => .rPort
  | .start => .rPort
  | .hostReq => .rPort
  | .pop => .rPort
  | .rIdleInIdle => .rPort
  | .rIdleNoRequest => .rPort
  | .rIdleNotReady => .rPort

/-- The encoder writes a row in its own format, for every parameter. -/
def Statement (i : Instr) : Prop := ∀ p : Params, ofWord (encode p i) = ofRow i

end Sys2Proof.Laws.RowFormat

namespace Sys2Proof.Laws

theorem RowFormat.checksumError (F : List Byte) : RowFormat.Statement (.checksumError F) := fun _ => rfl
theorem RowFormat.eventMalformed (F : List Byte) : RowFormat.Statement (.eventMalformed F) := fun _ => rfl
theorem RowFormat.functionResponse (F : List Byte) : RowFormat.Statement (.functionResponse F) := fun _ => rfl
theorem RowFormat.eventNoErrorAck (F : List Byte) : RowFormat.Statement (.eventNoErrorAck F) := fun _ => rfl
theorem RowFormat.eventNoErrorIgnored (F : List Byte) : RowFormat.Statement (.eventNoErrorIgnored F) := fun _ => rfl
theorem RowFormat.eventSearchTimeout (F : List Byte) : RowFormat.Statement (.eventSearchTimeout F) := fun _ => rfl
theorem RowFormat.eventRxFail (F : List Byte) : RowFormat.Statement (.eventRxFail F) := fun _ => rfl
theorem RowFormat.eventTxComplete (F : List Byte) : RowFormat.Statement (.eventTxComplete F) := fun _ => rfl
theorem RowFormat.eventTxCompleteNoCallback (F : List Byte) : RowFormat.Statement (.eventTxCompleteNoCallback F) := fun _ => rfl
theorem RowFormat.eventOther (F : List Byte) : RowFormat.Statement (.eventOther F) := fun _ => rfl
theorem RowFormat.broadcast (F : List Byte) : RowFormat.Statement (.broadcast F) := fun _ => rfl
theorem RowFormat.broadcastNoCallback (F : List Byte) : RowFormat.Statement (.broadcastNoCallback F) := fun _ => rfl
theorem RowFormat.otherMessage (F : List Byte) : RowFormat.Statement (.otherMessage F) := fun _ => rfl
theorem RowFormat.systemReset : RowFormat.Statement .systemReset := fun _ => rfl
theorem RowFormat.capabilityRequest (target : Byte) : RowFormat.Statement (.capabilityRequest target) := fun _ => rfl
theorem RowFormat.assignChannel (channelType networkNumber : Byte) : RowFormat.Statement (.assignChannel channelType networkNumber) := fun _ => rfl
theorem RowFormat.setChannelId (deviceId : Half) (deviceType transType : Byte) : RowFormat.Statement (.setChannelId deviceId deviceType transType) := fun _ => rfl
theorem RowFormat.setPeriod (period : Half) : RowFormat.Statement (.setPeriod period) := fun _ => rfl
theorem RowFormat.setFrequency (freq : Byte) : RowFormat.Statement (.setFrequency freq) := fun _ => rfl
theorem RowFormat.setSearchTimeout (timeout : Byte) : RowFormat.Statement (.setSearchTimeout timeout) := fun _ => rfl
theorem RowFormat.openChannel : RowFormat.Statement .openChannel := fun _ => rfl
theorem RowFormat.broadcastData (addr : Half) (data : Data6) : RowFormat.Statement (.broadcastData addr data) := fun _ => rfl
theorem RowFormat.acknowledgedData (addr : Half) (data : Data6) : RowFormat.Statement (.acknowledgedData addr data) := fun _ => rfl
theorem RowFormat.addressAnnounce (addr : Half) : RowFormat.Statement (.addressAnnounce addr) := fun _ => rfl
theorem RowFormat.hostKReset : RowFormat.Statement .hostKReset := fun _ => rfl
theorem RowFormat.hostKCapreq : RowFormat.Statement .hostKCapreq := fun _ => rfl
theorem RowFormat.hostKAssign : RowFormat.Statement .hostKAssign := fun _ => rfl
theorem RowFormat.hostKChid : RowFormat.Statement .hostKChid := fun _ => rfl
theorem RowFormat.hostKPeriod : RowFormat.Statement .hostKPeriod := fun _ => rfl
theorem RowFormat.hostKFreq : RowFormat.Statement .hostKFreq := fun _ => rfl
theorem RowFormat.hostKStimeout : RowFormat.Statement .hostKStimeout := fun _ => rfl
theorem RowFormat.hostKOpen : RowFormat.Statement .hostKOpen := fun _ => rfl
theorem RowFormat.hostKBcast : RowFormat.Statement .hostKBcast := fun _ => rfl
theorem RowFormat.hostKAckdata : RowFormat.Statement .hostKAckdata := fun _ => rfl
theorem RowFormat.hostReservedAB (low : BitVec 1) : RowFormat.Statement (.hostReservedAB low) := fun _ => rfl
theorem RowFormat.hostReservedCF (low : BitVec 2) : RowFormat.Statement (.hostReservedCF low) := fun _ => rfl
theorem RowFormat.huntDiscard (b : Byte) : RowFormat.Statement (.huntDiscard b) := fun _ => rfl
theorem RowFormat.huntSync : RowFormat.Statement .huntSync := fun _ => rfl
theorem RowFormat.resync : RowFormat.Statement .resync := fun _ => rfl
theorem RowFormat.length (b : Byte) : RowFormat.Statement (.length b) := fun _ => rfl
theorem RowFormat.lengthInvalid (b : Byte) : RowFormat.Statement (.lengthInvalid b) := fun _ => rfl
theorem RowFormat.messageId (b : Byte) : RowFormat.Statement (.messageId b) := fun _ => rfl
theorem RowFormat.payloadByte (b : Byte) : RowFormat.Statement (.payloadByte b) := fun _ => rfl
theorem RowFormat.checksumByte (b : Byte) : RowFormat.Statement (.checksumByte b) := fun _ => rfl
theorem RowFormat.push : RowFormat.Statement .push := fun _ => rfl
theorem RowFormat.pushDrop : RowFormat.Statement .pushDrop := fun _ => rfl
theorem RowFormat.wIdle : RowFormat.Statement .wIdle := fun _ => rfl
theorem RowFormat.txByte : RowFormat.Statement .txByte := fun _ => rfl
theorem RowFormat.txStall : RowFormat.Statement .txStall := fun _ => rfl
theorem RowFormat.start : RowFormat.Statement .start := fun _ => rfl
theorem RowFormat.hostReq : RowFormat.Statement .hostReq := fun _ => rfl
theorem RowFormat.pop : RowFormat.Statement .pop := fun _ => rfl
theorem RowFormat.rIdleInIdle : RowFormat.Statement .rIdleInIdle := fun _ => rfl
theorem RowFormat.rIdleNoRequest : RowFormat.Statement .rIdleNoRequest := fun _ => rfl
theorem RowFormat.rIdleNotReady : RowFormat.Statement .rIdleNotReady := fun _ => rfl

end Sys2Proof.Laws
end

