-- ==== Sys2Proof/Laws/Step.lean ====
section
/-! SUPPORT. Everything one step can do, said once: which rows an edge can select and under which conditions, and the next
state of every kind of event. -/
namespace Sys2Proof.Machine

open Sys2Proof

/-! ### Which rows an edge selects -/

/-- A row an R edge runs is the one it selects. -/
theorem rSelects_of_rRow {s : State} {i : Instr} (h : rRow s = some i) : rSelects s i = true := by
  unfold rRow at h
  split at h <;> simp_all [rSelects]

/-- A row a W edge runs is the one it selects. -/
theorem wSelects_of_wRow {s : State} {i : Instr} (h : wRow s = some i) : wSelects s i = true := by
  unfold wRow at h
  split at h <;> simp_all [wSelects]

/-- The seven signals of an R edge in the order of R114. -/
theorem signal_bits (a b c d e f g : Bool) :
    let w := BitVec.ofBool a ++ BitVec.ofBool b ++ BitVec.ofBool c ++ BitVec.ofBool d ++ BitVec.ofBool e ++
      BitVec.ofBool f ++ BitVec.ofBool g
    w.getLsbD 6 = a ∧ w.getLsbD 5 = b ∧ w.getLsbD 4 = c ∧ w.getLsbD 3 = d ∧ w.getLsbD 2 = e ∧ w.getLsbD 1 = f ∧
      w.getLsbD 0 = g := by
  revert a b c d e f g
  decide

/-- What the signals of a row taken by an R edge say. -/
theorem firstPortRow_rPort {w : BitVec 7} {i : Instr} (h : firstPortRow rPortRows w = some i) :
    (i = .txByte ∧ w.getLsbD 6 = true ∧ w.getLsbD 5 = true) ∨
    (i = .txStall ∧ w.getLsbD 6 = true ∧ w.getLsbD 5 = false) ∨
    (i = .start ∧ w.getLsbD 6 = false ∧ w.getLsbD 4 = true ∧ w.getLsbD 3 = true) ∨
    (i = .rIdleInIdle ∧ w.getLsbD 6 = false ∧ w.getLsbD 4 = true ∧ w.getLsbD 3 = false) ∨
    (i = .hostReq ∧ w.getLsbD 6 = false ∧ w.getLsbD 4 = false ∧ w.getLsbD 2 = true ∧ w.getLsbD 1 = true) ∨
    (i = .pop ∧ w.getLsbD 6 = false ∧ w.getLsbD 4 = false ∧ w.getLsbD 0 = false) ∨
    (i = .rIdleNoRequest ∧ w.getLsbD 6 = false ∧ w.getLsbD 4 = false ∧ w.getLsbD 0 = true) ∨
    (i = .rIdleNotReady ∧ w.getLsbD 6 = false ∧ w.getLsbD 4 = false ∧ w.getLsbD 0 = true) := by
  have := (by decide : ∀ w : BitVec 7, ∀ i ∈ firstPortRow rPortRows w,
    (i = .txByte ∧ w.getLsbD 6 = true ∧ w.getLsbD 5 = true) ∨
    (i = .txStall ∧ w.getLsbD 6 = true ∧ w.getLsbD 5 = false) ∨
    (i = .start ∧ w.getLsbD 6 = false ∧ w.getLsbD 4 = true ∧ w.getLsbD 3 = true) ∨
    (i = .rIdleInIdle ∧ w.getLsbD 6 = false ∧ w.getLsbD 4 = true ∧ w.getLsbD 3 = false) ∨
    (i = .hostReq ∧ w.getLsbD 6 = false ∧ w.getLsbD 4 = false ∧ w.getLsbD 2 = true ∧ w.getLsbD 1 = true) ∨
    (i = .pop ∧ w.getLsbD 6 = false ∧ w.getLsbD 4 = false ∧ w.getLsbD 0 = false) ∨
    (i = .rIdleNoRequest ∧ w.getLsbD 6 = false ∧ w.getLsbD 4 = false ∧ w.getLsbD 0 = true) ∨
    (i = .rIdleNotReady ∧ w.getLsbD 6 = false ∧ w.getLsbD 4 = false ∧ w.getLsbD 0 = true))
  exact this w i h

/-- The conditions of the row an R edge runs (R282). -/
theorem rRow_cases {s : State} {i : Instr} (h : rRow s = some i) :
    (i = .txByte ∧ s.txActive = true ∧ s.ports.txReady = true) ∨
    (i = .txStall ∧ s.txActive = true ∧ s.ports.txReady = false) ∨
    (i = .start ∧ s.txActive = false ∧ s.stage = .idle ∧ s.ports.host.start = true) ∨
    (i = .rIdleInIdle ∧ s.txActive = false ∧ s.stage = .idle ∧ s.ports.host.start = false) ∨
    (i = .hostReq ∧ s.txActive = false ∧ s.stage ≠ .idle ∧ s.ports.host.reqValid = true ∧ hostReqReady s = true) ∨
    (i = .pop ∧ s.txActive = false ∧ s.stage ≠ .idle ∧ rdEmpty s = false) ∨
    (i = .rIdleNoRequest ∧ s.txActive = false ∧ s.stage ≠ .idle ∧ rdEmpty s = true) ∨
    (i = .rIdleNotReady ∧ s.txActive = false ∧ s.stage ≠ .idle ∧ rdEmpty s = true) := by
  unfold rRow at h
  split at h
  · simp only [decode] at h
    split at h
    · next j hj =>
      cases h
      have hc := firstPortRow_rPort hj
      obtain ⟨e6, e5, e4, e3, e2, e1, e0⟩ := signal_bits s.txActive s.ports.txReady (s.stage == .idle) s.ports.host.start
        s.ports.host.reqValid (hostReqReady s) (rdEmpty s)
      simpa only [rSignals, e6, e5, e4, e3, e2, e1, e0, beq_iff_eq, beq_eq_false_iff_ne] using hc
    · cases h
  · cases h

/-- The conditions of the row a W edge runs (R114). -/
theorem wRow_cases {s : State} {i : Instr} (h : wRow s = some i) :
    (i = .push ∧ s.ports.wrEn = true ∧ wrFull s = false) ∨
    (i = .pushDrop ∧ s.ports.wrEn = true ∧ wrFull s = true) ∨
    (i = .wIdle ∧ s.ports.wrEn = false) := by
  unfold wRow at h
  split at h
  · simp only [decode] at h
    split at h
    · next j hj =>
      cases h
      have := (by decide : ∀ a b : Bool, ∀ i ∈ firstPortRow wPortRows (BitVec.ofBool a ++ BitVec.ofBool b),
        (i = .push ∧ a = true ∧ b = false) ∨ (i = .pushDrop ∧ a = true ∧ b = true) ∨ (i = .wIdle ∧ a = false))
      exact this _ _ i hj
    · cases h
  · cases h

/-! ### The next state of a step -/

/-- The next states of a `wclk` edge. -/
theorem wEdge_next {s t : State} (h : wEdge s = .next t) :
    (wRow s = none ∧ t = wEdgeInReset s) ∨
    (wRow s = some .push ∧ wrFull s = false ∧ s.wbin.toNat < s.par.depth ∧ t = finishW (pushByte s.ports.wrData s)) ∨
    ((wRow s = some .pushDrop ∨ wRow s = some .wIdle) ∧ t = finishW s) := by
  unfold wEdge at h
  split at h
  · next i hi =>
    have hs := wSelects_of_wRow hi
    rcases wRow_cases hi with ⟨rfl, -, hf⟩ | ⟨rfl, -⟩ | ⟨rfl, -⟩
    · simp only [exec, execPush, hs, whenSelected_true] at h
      split at h
      · next hb => cases h; exact .inr (.inl ⟨hi, hf, hb, rfl⟩)
      · cases h
    · simp only [exec, execPushDrop, hs, whenSelected_true] at h
      cases h; exact .inr (.inr ⟨.inl hi, rfl⟩)
    · simp only [exec, execWIdle, hs, whenSelected_true] at h
      cases h; exact .inr (.inr ⟨.inr hi, rfl⟩)
  · next hi => cases h; exact .inl ⟨hi, rfl⟩

/-- The next states of an `rclk` edge. -/
theorem rEdge_next {s t : State} (h : rEdge s = .next t) :
    (rRow s = none ∧ t = rEdgeInReset s) ∨
    (rRow s = some .txByte ∧ s.txActive = true ∧ s.txIdx.toNat < TXB_SIZE ∧ t = finishR (advanceTx (clearPulses s))) ∨
    (rRow s = some .start ∧ s.txActive = false ∧ s.stage = .idle ∧ t = finishR (startBlock (clearPulses s))) ∨
    (rRow s = some .hostReq ∧ hostReqReady s = true ∧ t = finishR (acceptRequest (clearPulses s))) ∨
    (∃ b c, rRow s = some .pop ∧ s.txActive = false ∧ s.stage ≠ .idle ∧ rdEmpty s = false ∧ fifoRead s = .ok b ∧
      asmCase (asmSignals s) b = some c ∧ t = finishR (advanceRead (asmEffect b (clearPulses s) c))) ∨
    ((rRow s = some .txStall ∨ rRow s = some .rIdleInIdle ∨ rRow s = some .rIdleNoRequest ∨ rRow s = some .rIdleNotReady) ∧
      t = finishR (clearPulses s)) := by
  unfold rEdge at h
  split at h
  · next i hi =>
    have hs := rSelects_of_rRow hi
    rcases rRow_cases hi with ⟨rfl, c⟩ | ⟨rfl, c⟩ | ⟨rfl, c⟩ | ⟨rfl, c⟩ | ⟨rfl, c⟩ | ⟨rfl, c⟩ | ⟨rfl, c⟩ | ⟨rfl, c⟩
    · simp only [exec, execTxByte, hs, whenSelected_true] at h
      split at h
      · next hb => cases h; exact .inr (.inl ⟨hi, c.1, hb, rfl⟩)
      · cases h
    · simp only [exec, execTxStall, hs, whenSelected_true] at h
      cases h; simp [hi]
    · simp only [exec, execStart, hs, whenSelected_true] at h
      cases h; exact .inr (.inr (.inl ⟨hi, c.1, c.2.1, rfl⟩))
    · simp only [exec, execRIdleInIdle, hs, whenSelected_true] at h
      cases h; simp [hi]
    · simp only [exec, execHostReq, hs, whenSelected_true] at h
      cases h; exact .inr (.inr (.inr (.inl ⟨hi, c.2.2.2, rfl⟩)))
    · simp only [exec, execPop, hs, whenSelected_true] at h
      obtain ⟨b, u, hf, ha, rfl⟩ := popByte_next.1 h
      rw [assemble_eq] at ha
      obtain ⟨k, hk, rfl⟩ := Option.map_eq_some_iff.1 ha
      exact .inr (.inr (.inr (.inr (.inl ⟨b, k, hi, c.1, c.2.1, c.2.2, hf, hk, rfl⟩))))
    · simp only [exec, execRIdleNoRequest, hs, whenSelected_true] at h
      cases h; simp [hi]
    · simp only [exec, execRIdleNotReady, hs, whenSelected_true] at h
      cases h; simp [hi]
  · next hi => cases h; exact .inl ⟨hi, rfl⟩

/-- The next states of a step, event by event. -/
theorem step_next {s t : State} (h : step s = .next t) :
    (s.stimulus = [] ∧ t = s) ∨
    (∃ d rest, s.stimulus = .wclk d :: rest ∧ wEdge s = .next t) ∨
    (∃ d rest, s.stimulus = .rclk d :: rest ∧ rEdge s = .next t) ∨
    (∃ en b rest, s.stimulus = .producer en b :: rest ∧ t = driveProducer en b s) ∨
    (∃ r rest, s.stimulus = .transport r :: rest ∧ t = driveTransport r s) ∨
    (∃ p rest, s.stimulus = .host p :: rest ∧ t = driveHost p s) ∨
    (∃ rest, s.stimulus = .reset true :: rest ∧ t = { releaseReset s with stimulus := rest }) ∨
    (∃ rest, s.stimulus = .reset false :: rest ∧ t = { assertReset s with stimulus := rest }) := by
  unfold step at h
  split at h
  · cases h; simp_all
  · exact .inr (.inl ⟨_, _, ‹_›, h⟩)
  · exact .inr (.inr (.inl ⟨_, _, ‹_›, h⟩))
  · cases h; exact .inr (.inr (.inr (.inl ⟨_, _, _, ‹_›, rfl⟩)))
  · cases h; exact .inr (.inr (.inr (.inr (.inl ⟨_, _, ‹_›, rfl⟩))))
  · cases h; exact .inr (.inr (.inr (.inr (.inr (.inl ⟨_, _, ‹_›, rfl⟩)))))
  · next r rest hr =>
    cases h
    cases r
    · exact .inr (.inr (.inr (.inr (.inr (.inr (.inr ⟨_, hr, by simp [driveReset, hr]⟩))))))
    · exact .inr (.inr (.inr (.inr (.inr (.inr (.inl ⟨_, hr, by simp [driveReset, hr]⟩))))))
  · cases h

/-- An edge of one clock runs no row of the other domain. -/
theorem wRow_of_rclk {s : State} {d : Draw} {rest : List Stimulus} (h : s.stimulus = .rclk d :: rest) : wRow s = none := by
  simp [wRow, wStep, h]

/-- An edge of one clock runs no row of the other domain. -/
theorem rRow_of_wclk {s : State} {d : Draw} {rest : List Stimulus} (h : s.stimulus = .wclk d :: rest) : rRow s = none := by
  simp [rRow, rStep, h]

/-! ### What the parts of an R step leave alone -/

/-- A frame row writes nothing of the FIFO, the synchronisers, the assembler, the ports or the configuration latch. -/
theorem frameEffect_frame (F : List Byte) (s : State) (c : FrameClass) :
    ∃ g ta tb tl ti be te dv dk f n, frameEffect F s c =
      { s with
        stage := g, txActive := ta, txBuf := tb, txLen := tl, txIdx := ti
        bcastEvt := be, txcEvt := te, diagValid := dv, diagKind := dk, outFrame := f, outLen := n } := by
  cases c
  case eventNoErrorAck =>
    simp only [frameEffect, onEventNoErrorAck, ackStage, ackOpenChannel]
    split
    all_goals first
      | exact ⟨_, _, _, _, _, _, _, _, _, _, _, rfl⟩
      | (split <;> exact ⟨_, _, _, _, _, _, _, _, _, _, _, rfl⟩)
  all_goals exact ⟨_, _, _, _, _, _, _, _, _, _, _, rfl⟩

/-- An assembler row writes nothing of the FIFO, the synchronisers, the ports or the configuration latch. -/
theorem asmEffect_frame (b : Byte) (s : State) (c : AsmCase) :
    ∃ fi fp fb g ta tb tl ti be te dv dk f n, asmEffect b s c =
      { s with
        faIn := fi, faPos := fp, faBuf := fb
        stage := g, txActive := ta, txBuf := tb, txLen := tl, txIdx := ti
        bcastEvt := be, txcEvt := te, diagValid := dv, diagKind := dk, outFrame := f, outLen := n } := by
  cases c
  case checksumByte =>
    simp only [asmEffect, onChecksumByte, dispatch_eq]
    generalize hu : ({ storeFaBuf s.faPos.toNat b s with faIn := false, faPos := 0 } : State) = u
    obtain ⟨g, ta, tb, tl, ti, be, te, dv, dk, f, n, e⟩ := frameEffect_frame (candidate b s) u (frameClass (frameSignals u) (candidate b s))
    subst hu
    rw [e]
    exact ⟨_, _, _, _, _, _, _, _, _, _, _, _, _, _, rfl⟩
  all_goals exact ⟨_, _, _, _, _, _, _, _, _, _, _, _, _, _, rfl⟩

/-- Only a POP runs a frame row (R160, R168). -/
theorem frameRow_eq_none {s : State} (h : rRow s ≠ some .pop) : frameRow s = none := by
  have : asmRow s = none := by unfold asmRow; split <;> simp_all
  simp [frameRow, this]

/-- Only a HOST_REQ runs a host row (R285). -/
theorem hostPortRow_eq_none {s : State} (h : rRow s ≠ some .hostReq) : hostPortRow s = none := by
  unfold hostPortRow; split <;> simp_all

/-- An accepted request loads a command's frame or reports; it does nothing else (R285). -/
theorem acceptRequest_cases (s : State) :
    (∃ id P, P.length ∈ [1, 2, 3, 5, 9] ∧ acceptRequest s = loadTx id P s) ∨
    acceptRequest s = report .badHostRequest s := by
  unfold acceptRequest
  split <;> first
    | exact .inr rfl
    | exact .inl ⟨_, _, by decide, rfl⟩
    | exact .inl ⟨_, _, by simp [dataPayload, dataBytes], rfl⟩

end Sys2Proof.Machine
end

