-- ==== Sys2Proof/Machine/Stimuli.lean ====
section
/-! DEFINITION. The stimulus language of 30_encoding.md R111 and R112 as lists of events. The synchroniser draw `d` of the
edges is an argument (R13); `expect` is an assertion and so no event. -/
namespace Sys2Proof.Machine

open Sys2Proof

/-- `push b1 b2 ...` (R111): one W edge per byte; `wr_en = 0` after it. -/
def stimPush (d : Draw) (bs : List Byte) : List Stimulus :=
  bs.flatMap (fun b => [.producer true b, .wclk d]) ++ [.producer false 0]

/-- `widle n` (R111). -/
def stimWidle (d : Draw) (n : Nat) : List Stimulus := .producer false 0 :: List.replicate n (.wclk d)

/-- `r n` (R111). -/
def stimR (d : Draw) (n : Nat) : List Stimulus := List.replicate n (.rclk d)

/-- `reset` (R111, R331): `rst_n` pulsed low, and its release in both domains (two edges of each reset synchroniser). -/
def stimReset (d : Draw) : List Stimulus := [.reset false, .reset true, .wclk d, .wclk d, .rclk d, .rclk d]

/-- `frame ID P0 ... Pk-1` (R112). -/
def stimFrame (d : Draw) (id : Byte) (P : List Byte) : List Stimulus := stimPush d (build id P)

/-- `badframe ID P0 ... Pk-1` (R112): the checksum with its bit 0 inverted. -/
def stimBadframe (d : Draw) (id : Byte) (P : List Byte) : List Stimulus :=
  stimPush d ((build id P).dropLast ++ [(build id P).getLastD 0 ^^^ 0x01])

/-- `event CODE` (R112). -/
def stimEvent (d : Draw) (code : Byte) : List Stimulus := stimFrame d ID_EVENT [0x00, 0x01, code]

/-- `ack` (R112). -/
def stimAck (d : Draw) : List Stimulus := stimEvent d 0x00

/-- `host KIND ...` (R112) when the request is accepted at the n-th R edge: raised, n edges, lowered. -/
def stimHost (d : Draw) (h : HostPorts) (n : Nat) : List Stimulus :=
  [.host { h with reqValid := true }] ++ stimR d n ++ [.host { h with reqValid := false }]

end Sys2Proof.Machine
end

