-- ==== Sys2Proof/Tests/Slice0.lean ====
section
/-! SUPPORT. The model's own tests: ill-formed terms that WellFormed refuses, every row's word decoded, one-step tests from
95_test_vectors.md, and for every obligation with hypotheses a state and operands that meet them together. Expected values
are the spec's; each test names their source. -/
namespace Sys2Proof.Tests

open Sys2Proof Sys2Proof.Machine

/-! ### Helpers -/

/-- The outcome is a next state with the property. -/
def nextIs (o : Host.Outcome State Fault Refusal) (p : State → Bool) : Bool :=
  match o with
  | .next t => p t
  | _ => false

/-- The outcome is a refusal because another row is selected. -/
def isNotSelected (o : Host.Outcome State Fault Refusal) : Bool :=
  match o with
  | .refused .notSelected => true
  | _ => false

theorem exists_next {o : Host.Outcome State Fault Refusal} {p : State → Bool} (h : nextIs o p = true) :
    ∃ t, o = .next t ∧ p t = true := by
  cases o with
  | next t => exact ⟨t, rfl, h⟩
  | fault f => cases h
  | refused r => cases h

/-- The end of program P1: Configured, hunting, nothing to send, both callbacks supplied (95_test_vectors.md). -/
def ready : State :=
  { State.reset with stage := .configured, cfgQ := ⟨.master, 0x1234, 0x2000, 0x42, true, true⟩ }

/-- `ready` with neither callback supplied. -/
def readyNoCallback : State :=
  { ready with cfgQ := ⟨.master, 0x1234, 0x2000, 0x42, false, false⟩ }

/-- Waiting in stage `g` for the acknowledgment of its command (R44). -/
def waitingIn (g : Stage) : State := { ready with stage := g }

/-- `ready` for a slave, waiting in OpenChannel. -/
def slaveOpen : State := { ready with stage := .openChannel, cfgQ := ⟨.slave, 0x1234, 0x2000, 0x42, true, true⟩ }

/-- The next event is an `rclk` edge. -/
def onR (s : State) : State := { s with stimulus := [.rclk .current] }

/-- The next event is a `wclk` edge. -/
def onW (s : State) : State := { s with stimulus := [.wclk .current] }

/-- `wr_en = 1` with a byte. -/
def pushing (b : Byte) (s : State) : State := { s with ports := { s.ports with wrEn := true, wrData := b } }

/-- A FIFO of DEPTH 4 whose W domain sees it full (vector V2). -/
def full4 : State :=
  { State.resetOf { Params.default with awMinusOne := 1 } with
    mem := [(0, 0x01), (1, 0x02), (2, 0x03)], wbin := 3, wgray := 2 }

/-- One byte in the FIFO, visible to the R domain. -/
def holding (b : Byte) (s : State) : State := { s with mem := memWrite [] 0 b, wbin := 1, wgray := 1, wq := ⟨[1], 1⟩ }

/-- A request on the host port. -/
def asking (k : BitVec 4) (arg : Byte) (addr : Half) (data : Data6) (s : State) : State :=
  { s with ports := { s.ports with host := { s.ports.host with reqValid := true, reqKind := k, reqArg := arg, reqAddr := addr, reqData := data } } }

/-- The open-channel frame loaded (vector X15), the transmitter at index `i`. -/
def sending (i : BitVec 4) (txReady : Bool) : State :=
  let s := loadOpenChannel ready
  { s with txIdx := i, ports := { s.ports with txReady := txReady } }

/-- `start = 1` in Idle with the inputs of vector C1. -/
def starting : State :=
  { State.reset with ports := { State.reset.ports with host := { HostPorts.zero with start := true, cfg := ⟨.slave, 0xBEEF, 0, 0, false, false⟩ } } }

/-- Frames of 95_test_vectors.md by their names. -/
def S1 : List Byte := [0xA4, 0x09, 0x4E, 0x00, 0x01, 0x00, 0x2A, 0x00, 0x2B, 0x00, 0x2C, 0x00, 0xCF]
def ACK : List Byte := [0xA4, 0x03, 0x40, 0x00, 0x01, 0x00, 0xE6]
def TMO : List Byte := [0xA4, 0x03, 0x40, 0x00, 0x01, 0x01, 0xE7]
def A10 : List Byte := [0xA4, 0x09, 0x4E, 0x00, 0x01, 0x00, 0x2A, 0x00, 0x2B, 0x00, 0x2C, 0x00, 0xCE]
def D2 : List Byte := [0xA4, 0x00, 0x40, 0xE4]
def D4 : List Byte := [0xA4, 0x03, 0x40, 0x00, 0x42, 0x00, 0xA5]
def D8 : List Byte := [0xA4, 0x04, 0x40, 0x00, 0x01, 0x00, 0x77, 0x96]
def D10 : List Byte := [0xA4, 0x03, 0x40, 0x00, 0x01, 0x02, 0xE4]
def D11 : List Byte := [0xA4, 0x03, 0x40, 0x00, 0x01, 0x03, 0xE5]
def D15 : List Byte := [0xA4, 0x03, 0x40, 0x00, 0x01, 0xFF, 0x19]
def D19 : List Byte := [0xA4, 0x00, 0x99, 0x3D]

/-! ### WellFormed refuses ill-formed terms, check by check -/

theorem test_wf_length_mismatch : wellFormed (.checksumError (A10 ++ [0x00])) = false := by decide
theorem test_wf_length_above_17 :
    wellFormed (.otherMessage ([0xA4, 0x12, 0x99] ++ List.replicate 18 0 ++ [0x2F])) = false := by decide
theorem test_wf_no_sync : wellFormed (.otherMessage [0xA5, 0x00, 0x99, 0x3C]) = false := by decide
theorem test_wf_sync_inside : wellFormed (.otherMessage [0xA4, 0x01, 0x99, 0xA4, 0x98]) = false := by decide
theorem test_wf_checksumError_needs_mismatch : wellFormed (.checksumError S1) = false := by decide
theorem test_wf_eventMalformed_needs_short : wellFormed (.eventMalformed ACK) = false := by decide
theorem test_wf_functionResponse_needs_disc : wellFormed (.functionResponse ACK) = false := by decide
theorem test_wf_eventNoErrorAck_needs_code_0 : wellFormed (.eventNoErrorAck TMO) = false := by decide
theorem test_wf_eventNoErrorIgnored_needs_code_0 : wellFormed (.eventNoErrorIgnored TMO) = false := by decide
theorem test_wf_eventSearchTimeout_needs_code_1 : wellFormed (.eventSearchTimeout ACK) = false := by decide
theorem test_wf_eventRxFail_needs_code_2 : wellFormed (.eventRxFail ACK) = false := by decide
theorem test_wf_eventTxComplete_needs_code_3 : wellFormed (.eventTxComplete ACK) = false := by decide
theorem test_wf_eventTxCompleteNoCallback_needs_code_3 : wellFormed (.eventTxCompleteNoCallback ACK) = false := by decide
theorem test_wf_eventOther_needs_code_4 : wellFormed (.eventOther D11) = false := by decide
theorem test_wf_broadcast_needs_id : wellFormed (.broadcast D19) = false := by decide
theorem test_wf_broadcastNoCallback_needs_id : wellFormed (.broadcastNoCallback D19) = false := by decide
theorem test_wf_otherMessage_needs_id : wellFormed (.otherMessage S1) = false := by decide
theorem test_wf_huntDiscard : wellFormed (.huntDiscard 0xA4) = false := by decide
theorem test_wf_length : wellFormed (.length 0x12) = false ∧ wellFormed (.length 0xA4) = false := by decide
theorem test_wf_lengthInvalid : wellFormed (.lengthInvalid 0x11) = false ∧ wellFormed (.lengthInvalid 0xA4) = false := by decide
theorem test_wf_messageId : wellFormed (.messageId 0xA4) = false := by decide
theorem test_wf_payloadByte : wellFormed (.payloadByte 0xA4) = false := by decide
theorem test_wf_checksumByte : wellFormed (.checksumByte 0xA4) = false := by decide

/-! ### Every row's word, written out from the spec, decodes to it -/

-- Frame rows: the frames of 95_test_vectors.md sections 2.3 and 2.5, under the condition signals of the row.
theorem test_decode_checksumError : decode .default (.frame ⟨false, true, true⟩ A10) = .ok (.checksumError A10) := by decide
theorem test_decode_eventMalformed : decode .default (.frame ⟨false, true, true⟩ D2) = .ok (.eventMalformed D2) := by decide
theorem test_decode_functionResponse : decode .default (.frame ⟨false, true, true⟩ D4) = .ok (.functionResponse D4) := by decide
theorem test_decode_eventNoErrorAck : decode .default (.frame ⟨true, true, true⟩ ACK) = .ok (.eventNoErrorAck ACK) := by decide
theorem test_decode_eventNoErrorIgnored : decode .default (.frame ⟨false, true, true⟩ D8) = .ok (.eventNoErrorIgnored D8) := by decide
theorem test_decode_eventSearchTimeout : decode .default (.frame ⟨true, true, true⟩ TMO) = .ok (.eventSearchTimeout TMO) := by decide
theorem test_decode_eventRxFail : decode .default (.frame ⟨true, true, true⟩ D10) = .ok (.eventRxFail D10) := by decide
theorem test_decode_eventTxComplete : decode .default (.frame ⟨true, false, true⟩ D11) = .ok (.eventTxComplete D11) := by decide
theorem test_decode_eventTxCompleteNoCallback :
    decode .default (.frame ⟨true, true, false⟩ D11) = .ok (.eventTxCompleteNoCallback D11) := by decide
theorem test_decode_eventOther : decode .default (.frame ⟨true, true, true⟩ D15) = .ok (.eventOther D15) := by decide
theorem test_decode_broadcast : decode .default (.frame ⟨true, true, false⟩ S1) = .ok (.broadcast S1) := by decide
theorem test_decode_broadcastNoCallback : decode .default (.frame ⟨true, false, true⟩ S1) = .ok (.broadcastNoCallback S1) := by decide
theorem test_decode_otherMessage : decode .default (.frame ⟨true, true, true⟩ D19) = .ok (.otherMessage D19) := by decide

-- Outbound rows: vectors X1 to X13 of section 2.4.
theorem test_decode_systemReset : decode .default (.txFrame .kReset [0xA4, 0x01, 0x4A, 0x00, 0xEF]) = .ok .systemReset := by decide
theorem test_decode_capabilityRequest :
    decode .default (.txFrame .kCapreq [0xA4, 0x02, 0x4D, 0x00, 0x54, 0xBF]) = .ok (.capabilityRequest 0x54) := by decide
theorem test_decode_assignChannel :
    decode .default (.txFrame .kAssign [0xA4, 0x03, 0x42, 0x00, 0x10, 0x00, 0xF5]) = .ok (.assignChannel 0x10 0x00) := by decide
theorem test_decode_setChannelId :
    decode .default (.txFrame .kChid [0xA4, 0x05, 0x51, 0x00, 0x34, 0x12, 0x00, 0x00, 0xD6]) = .ok (.setChannelId 0x1234 0 0) := by decide
theorem test_decode_setPeriod :
    decode .default (.txFrame .kPeriod [0xA4, 0x03, 0x43, 0x00, 0x00, 0x20, 0xC4]) = .ok (.setPeriod 0x2000) := by decide
theorem test_decode_setFrequency :
    decode .default (.txFrame .kFreq [0xA4, 0x02, 0x45, 0x00, 0x42, 0xA1]) = .ok (.setFrequency 0x42) := by decide
theorem test_decode_setSearchTimeout :
    decode .default (.txFrame .kStimeout [0xA4, 0x02, 0x44, 0x00, 0x0C, 0xEE]) = .ok (.setSearchTimeout 0x0C) := by decide
theorem test_decode_openChannel : decode .default (.txFrame .kOpen [0xA4, 0x01, 0x4B, 0x00, 0xEE]) = .ok .openChannel := by decide
theorem test_decode_broadcastData : decode .default (.txFrame .kBcast S1) = .ok (.broadcastData 0x0001 0x002C002B002A) := by decide
theorem test_decode_acknowledgedData :
    decode .default (.txFrame .kAckdata [0xA4, 0x09, 0x4F, 0x00, 0xCD, 0xAB, 0x01, 0x02, 0x03, 0x04, 0x05, 0x06, 0x83])
      = .ok (.acknowledgedData 0xABCD 0x060504030201) := by decide
theorem test_decode_addressAnnounce :
    decode .default (.txFrame .announce [0xA4, 0x09, 0x4E, 0x00, 0x34, 0x12, 0xFF, 0xFF, 0xFF, 0xFF, 0xFF, 0xFF, 0xC5])
      = .ok (.addressAnnounce 0x1234) := by decide

-- Host rows: the codes of R103 and R106.
theorem test_decode_host_kinds :
    decode .default (.hostReq 0x0) = .ok .hostKReset ∧ decode .default (.hostReq 0x1) = .ok .hostKCapreq ∧
    decode .default (.hostReq 0x2) = .ok .hostKAssign ∧ decode .default (.hostReq 0x3) = .ok .hostKChid ∧
    decode .default (.hostReq 0x4) = .ok .hostKPeriod ∧ decode .default (.hostReq 0x5) = .ok .hostKFreq ∧
    decode .default (.hostReq 0x6) = .ok .hostKStimeout ∧ decode .default (.hostReq 0x7) = .ok .hostKOpen ∧
    decode .default (.hostReq 0x8) = .ok .hostKBcast ∧ decode .default (.hostReq 0x9) = .ok .hostKAckdata := by decide
theorem test_decode_host_reserved :
    decode .default (.hostReq 0xA) = .ok (.hostReservedAB 0) ∧ decode .default (.hostReq 0xB) = .ok (.hostReservedAB 1) ∧
    decode .default (.hostReq 0xC) = .ok (.hostReservedCF 0) ∧ decode .default (.hostReq 0xD) = .ok (.hostReservedCF 1) ∧
    decode .default (.hostReq 0xE) = .ok (.hostReservedCF 2) ∧ decode .default (.hostReq 0xF) = .ok (.hostReservedCF 3) := by decide

-- Assembler rows: bytes and signals of R161 to R168.
theorem test_decode_huntDiscard : decode .default (.asmByte ⟨false, 0, 0⟩ 0x11) = .ok (.huntDiscard 0x11) := by decide
theorem test_decode_huntSync : decode .default (.asmByte ⟨false, 0, 0⟩ 0xA4) = .ok .huntSync := by decide
theorem test_decode_resync : decode .default (.asmByte ⟨true, 12, 9⟩ 0xA4) = .ok .resync := by decide
theorem test_decode_length : decode .default (.asmByte ⟨true, 1, 0⟩ 0x11) = .ok (.length 0x11) := by decide
theorem test_decode_lengthInvalid : decode .default (.asmByte ⟨true, 1, 0⟩ 0x12) = .ok (.lengthInvalid 0x12) := by decide
theorem test_decode_messageId : decode .default (.asmByte ⟨true, 2, 0⟩ 0x4E) = .ok (.messageId 0x4E) := by decide
theorem test_decode_payloadByte : decode .default (.asmByte ⟨true, 11, 9⟩ 0x00) = .ok (.payloadByte 0x00) := by decide
theorem test_decode_checksumByte : decode .default (.asmByte ⟨true, 12, 9⟩ 0xCF) = .ok (.checksumByte 0xCF) := by decide

-- Port rows: the `encoding` strings of the opcode table, with the free letters set.
theorem test_decode_w_ports :
    decode .default (.wPort 0b10) = .ok .push ∧ decode .default (.wPort 0b11) = .ok .pushDrop ∧
    decode .default (.wPort 0b00) = .ok .wIdle ∧ decode .default (.wPort 0b01) = .ok .wIdle := by decide
theorem test_decode_r_ports :
    decode .default (.rPort 0b1111111) = .ok .txByte ∧ decode .default (.rPort 0b1001000) = .ok .txStall ∧
    decode .default (.rPort 0b0111101) = .ok .start ∧ decode .default (.rPort 0b0100111) = .ok .hostReq ∧
    decode .default (.rPort 0b0101100) = .ok .pop ∧ decode .default (.rPort 0b0110001) = .ok .rIdleInIdle ∧
    decode .default (.rPort 0b0101011) = .ok .rIdleNoRequest ∧ decode .default (.rPort 0b0100101) = .ok .rIdleNotReady := by decide

-- Words that are no operation are rejected by name.
theorem test_decode_rejects :
    decode .default (.frame ⟨false, false, false⟩ [0xA4, 0x00, 0x99]) = .error .frameShape ∧
    decode .default (.frame ⟨false, false, false⟩ [0xA5, 0x00, 0x99, 0x3C]) = .error .frameSync ∧
    decode .default (.frame ⟨false, false, false⟩ [0xA4, 0x01, 0x99, 0xA4, 0x98]) = .error .syncInsideFrame ∧
    decode .default (.asmByte ⟨true, 0, 0⟩ 0x00) = .error .noAssemblerCase ∧
    decode .default (.txFrame .kOpen [0xA4, 0x01, 0x4B, 0x00]) = .error .txLength ∧
    decode .default (.txFrame .kOpen [0xA4, 0x01, 0x4A, 0x00, 0xEF]) = .error .txHeader ∧
    decode .default (.txFrame .kOpen [0xA4, 0x01, 0x4B, 0x01, 0xEF]) = .error .txChannel ∧
    decode .default (.txFrame .kOpen [0xA4, 0x01, 0x4B, 0x00, 0xEF]) = .error .txChecksum ∧
    decode .default (.txFrame .announce S1) = .error .txFill := by decide

/-! ### One-step tests -/

-- Section 2.1: gray codes and pointer arithmetic.
theorem test_gray_table :
    [0x00, 0x01, 0x02, 0x03, 0x04, 0x05, 0x06, 0x07, 0x08, 0x09, 0xFE, 0xFF].map gray
      = [0x00, 0x01, 0x03, 0x02, 0x06, 0x07, 0x05, 0x04, 0x0C, 0x0D, 0x81, 0x80] := by decide
theorem test_bin_values : bin 0x80 = 0xFF ∧ bin 0x0C = 0x08 ∧ bin 0x32 = 0x23 ∧ bin 0x2B = 0x32 ∧ bin 0x20 = 0x3F := by decide
theorem test_occupancy_wraps : Params.dist { Params.default with awMinusOne := 1 } 1 0 = 3 := by decide
theorem test_frame_stimulus : build 0x4E [0x00, 0x01, 0x00, 0x2A, 0x00, 0x2B, 0x00, 0x2C, 0x00] = S1 := by decide

-- Vectors V1 and V2.
theorem test_push :
    nextIs (step (onW (pushing 0x11 State.reset))) (fun t => t.wbin == 1 && t.wgray == 1 && t.mem == [(0, 0x11)]) = true := by decide
theorem test_push_wraps :
    nextIs (step (onW (pushing 0x07 { full4 with rq := ⟨[1], 1⟩ }))) (fun t => t.wbin == 0 && t.wgray == 0 && memRead t.mem 3 == 0x07)
      = true := by decide
theorem test_push_zero_over_a_byte : -- R10, R131: the entry holds the byte pushed, and equal contents are equal lists
    nextIs (step (onW (pushing 0x00 { State.reset with mem := [(0, 0x55)] }))) (fun t => memRead t.mem 0 == 0x00 && t.mem == []) = true := by decide
theorem test_pushDrop : nextIs (step (onW (pushing 0x04 full4))) (fun t => t.wbin == 3 && t.mem == full4.mem) = true := by decide
theorem test_wIdle : nextIs (step (onW full4)) (fun t => t.wbin == 3 && t.mem == full4.mem) = true := by decide
theorem test_pop_advances : nextIs (step (onR (holding 0x11 ready))) (fun t => t.rbin == 1 && t.rgray == 1) = true := by decide
theorem test_observe_tx_complete : -- R17: `out_frame` and `out_len` at each pulse
    nextIs (step (onR (holding 0xE5 (inFrame (D11.take 6) ready))))
      (fun t => (observe (onR (holding 0xE5 (inFrame (D11.take 6) ready))) t).txDone == some (ready.outFrame.toList, ready.outLen)) = true := by
  decide
theorem test_pop_feeds_the_assembler : nextIs (step (onR (holding 0xA4 ready))) (fun t => t.faIn && t.faPos == 1) = true := by decide

-- The two draws of R13 (vector V1, edge 1).
theorem test_sample_current :
    nextIs (step { ready with wgray := 1, wbin := 1, wgChanged := true, stimulus := [.rclk .current] })
      (fun t => t.wq == ⟨[1], 0⟩ && !t.wgChanged) = true := by decide
theorem test_sample_previous :
    nextIs (step { ready with wgray := 1, wbin := 1, wgChanged := true, stimulus := [.rclk .previous] })
      (fun t => t.wq == ⟨[0], 0⟩ && !t.wgChanged) = true := by decide

-- Section 2.3: the assembler rows.
theorem test_huntDiscard : nextIs (exec (.huntDiscard 0x22) ready) (fun t => t == ready) = true := by decide
theorem test_huntSync : nextIs (exec .huntSync ready) (fun t => t.faIn && t.faPos == 1 && t.faBuf[0] == 0xA4) = true := by decide
theorem test_resync_on_the_checksum :
    nextIs (exec .resync (inFrame [0xA4, 0x03, 0x40, 0x00, 0x01, 0x07] ready)) (fun t => t.faIn && t.faPos == 1 && !t.diagValid) = true := by decide
theorem test_length_17 : nextIs (exec (.length 0x11) (inFrame [0xA4] ready)) (fun t => t.faPos == 2 && t.faBuf[1] == 0x11) = true := by decide
theorem test_lengthInvalid_18 :
    nextIs (exec (.lengthInvalid 0x12) (inFrame [0xA4] ready)) (fun t => !t.faIn && t.faPos == 0 && !t.diagValid) = true := by decide
theorem test_messageId : nextIs (exec (.messageId 0x4E) (inFrame [0xA4, 0x09] ready)) (fun t => t.faPos == 3 && t.faBuf[2] == 0x4E) = true := by decide
theorem test_payloadByte :
    nextIs (exec (.payloadByte 0x2C) (inFrame (S1.take 10) ready)) (fun t => t.faPos == 11 && t.faBuf[10] == 0x2C) = true := by decide
theorem test_checksumByte_delivers :
    nextIs (exec (.checksumByte 0xCF) (inFrame (S1.take 12) ready))
      (fun t => t.bcastEvt && t.outLen == 13 && t.outFrame.toList == S1 ++ List.replicate 8 0 && !t.faIn && t.faPos == 0) = true := by decide
theorem test_checksumByte_reports :
    nextIs (exec (.checksumByte 0xCE) (inFrame (S1.take 12) ready))
      (fun t => !t.bcastEvt && t.diagValid && t.diagKind == .checksumError && t.outFrame.toList.take 13 == A10) = true := by decide

-- Section 2.5: the dispatcher rows.
theorem test_checksumError : nextIs (exec (.checksumError A10) ready) (fun t => t.diagValid && t.diagKind == .checksumError && t.outLen == 13) = true := by decide
theorem test_eventMalformed_D2 : nextIs (exec (.eventMalformed D2) ready) (fun t => t.diagKind == .malformedEvent && t.outLen == 4) = true := by decide
theorem test_functionResponse_D4 : nextIs (exec (.functionResponse D4) ready) (fun t => t.diagKind == .functionResponse && t.outLen == 7) = true := by decide
theorem test_eventNoErrorAck_D20 :
    nextIs (exec (.eventNoErrorAck ACK) (waitingIn .setChannelId))
      (fun t => t.stage == .setPeriod && t.txActive && t.txBuf.toList.take 7 == [0xA4, 0x03, 0x43, 0x00, 0x00, 0x20, 0xC4]) = true := by decide
theorem test_eventNoErrorAck_C5 :
    nextIs (exec (.eventNoErrorAck ACK) slaveOpen)
      (fun t => t.stage == .addressAnnounce && t.txBuf.toList == [0xA4, 0x09, 0x4E, 0x00, 0x34, 0x12, 0xFF, 0xFF, 0xFF, 0xFF, 0xFF, 0xFF, 0xC5]) = true := by decide
theorem test_eventNoErrorIgnored_D6 : nextIs (exec (.eventNoErrorIgnored ACK) ready) (fun t => t == ready) = true := by decide
theorem test_eventSearchTimeout_D9 :
    nextIs (exec (.eventSearchTimeout TMO) ready)
      (fun t => t.stage == .assignChannel && t.diagKind == .searchTimeout && t.outFrame.toList.take 7 == TMO &&
        t.txBuf.toList.take 7 == [0xA4, 0x03, 0x42, 0x00, 0x10, 0x00, 0xF5]) = true := by decide
theorem test_eventRxFail_D23 : nextIs (exec (.eventRxFail D10) (waitingIn .setChannelId)) (fun t => t == waitingIn .setChannelId) = true := by decide
theorem test_eventTxComplete_D11 : nextIs (exec (.eventTxComplete D11) ready) (fun t => t.txcEvt && t.outLen == 0) = true := by decide
theorem test_eventTxCompleteNoCallback_D12 : nextIs (exec (.eventTxCompleteNoCallback D11) readyNoCallback) (fun t => t == readyNoCallback) = true := by decide
theorem test_eventOther_D15 : nextIs (exec (.eventOther D15) ready) (fun t => t.diagKind == .unknownEvent && t.stage == .configured) = true := by decide
theorem test_broadcast_D16 : nextIs (exec (.broadcast S1) ready) (fun t => t.bcastEvt && !t.diagValid && t.outLen == 13) = true := by decide
theorem test_broadcastNoCallback_D17 : nextIs (exec (.broadcastNoCallback S1) readyNoCallback) (fun t => t == readyNoCallback) = true := by decide
theorem test_otherMessage_D19 : nextIs (exec (.otherMessage D19) ready) (fun t => t.diagKind == .unknownMessage && t.outLen == 4) = true := by decide

-- A row offered where the block selects another one is refused (R143, log 9).
theorem test_notSelected :
    isNotSelected (exec .pop (onW ready)) = true ∧ isNotSelected (exec (.broadcast S1) readyNoCallback) = true ∧
    isNotSelected (exec .openChannel (loadOpenChannel ready)) = true ∧ isNotSelected (exec .resync ready) = true := by decide

-- Section 2.4: the outbound rows.
theorem test_systemReset_X1 : nextIs (exec .systemReset ready) (fun t => t.txLen == 5 && t.txBuf.toList.take 5 == [0xA4, 0x01, 0x4A, 0x00, 0xEF]) = true := by decide
theorem test_capabilityRequest_X2 :
    nextIs (exec (.capabilityRequest 0x54) ready) (fun t => t.txLen == 6 && t.txBuf.toList.take 6 == [0xA4, 0x02, 0x4D, 0x00, 0x54, 0xBF]) = true := by decide
theorem test_assignChannel_X4 :
    nextIs (exec (.assignChannel 0x00 0x00) ready) (fun t => t.txLen == 7 && t.txBuf.toList.take 7 == [0xA4, 0x03, 0x42, 0x00, 0x00, 0x00, 0xE5]) = true := by decide
theorem test_setChannelId_X5 :
    nextIs (exec (.setChannelId 0x1234 0 0) ready)
      (fun t => t.txLen == 9 && t.txBuf.toList.take 9 == [0xA4, 0x05, 0x51, 0x00, 0x34, 0x12, 0x00, 0x00, 0xD6]) = true := by decide
theorem test_setPeriod_X6 : nextIs (exec (.setPeriod 0x2000) ready) (fun t => t.txBuf.toList.take 7 == [0xA4, 0x03, 0x43, 0x00, 0x00, 0x20, 0xC4]) = true := by decide
theorem test_setFrequency_X7 : nextIs (exec (.setFrequency 0x42) ready) (fun t => t.txBuf.toList.take 6 == [0xA4, 0x02, 0x45, 0x00, 0x42, 0xA1]) = true := by decide
theorem test_setSearchTimeout_X8 : nextIs (exec (.setSearchTimeout 0x0C) ready) (fun t => t.txBuf.toList.take 6 == [0xA4, 0x02, 0x44, 0x00, 0x0C, 0xEE]) = true := by decide
theorem test_openChannel_X9 : nextIs (exec .openChannel ready) (fun t => t.txLen == 5 && t.txBuf.toList.take 5 == [0xA4, 0x01, 0x4B, 0x00, 0xEE]) = true := by decide
theorem test_broadcastData_X10 : nextIs (exec (.broadcastData 0x0001 0x002C002B002A) ready) (fun t => t.txLen == 13 && t.txBuf.toList == S1) = true := by decide
theorem test_acknowledgedData_X11 :
    nextIs (exec (.acknowledgedData 0xABCD 0x060504030201) ready)
      (fun t => t.txBuf.toList == [0xA4, 0x09, 0x4F, 0x00, 0xCD, 0xAB, 0x01, 0x02, 0x03, 0x04, 0x05, 0x06, 0x83]) = true := by decide
theorem test_addressAnnounce_X13 :
    nextIs (exec (.addressAnnounce 0x1234) { ready with par := { Params.default with announceId := .acknowledged4F } })
      (fun t => t.txBuf.toList == [0xA4, 0x09, 0x4F, 0x00, 0x34, 0x12, 0xFF, 0xFF, 0xFF, 0xFF, 0xFF, 0xFF, 0xC4]) = true := by decide

-- Vector X15: the transmitter.
theorem test_txByte_last : nextIs (step (onR (sending 4 true))) (fun t => !t.txActive && t.txIdx == 0 && txData t == some 0x00) = true := by decide
theorem test_txByte_hands_over :
    acceptedByte (onR (sending 2 true)) = some 0x4B ∧ nextIs (step (onR (sending 2 true))) (fun t => t.txIdx == 3) = true := by decide
theorem test_txStall :
    acceptedByte (onR (sending 0 false)) = none ∧
    nextIs (step (onR (sending 0 false))) (fun t => t.txIdx == 0 && t.txActive && txData t == some 0xA4) = true := by decide

-- Vectors C1, C2, V5, H1 to H3.
theorem test_start_C1 :
    nextIs (step (onR starting))
      (fun t => t.stage == .assignChannel && t.cfgQ.role == .slave && t.cfgQ.devAddr == 0xBEEF &&
        t.txBuf.toList.take 7 == [0xA4, 0x03, 0x42, 0x00, 0x00, 0x00, 0xE5]) = true := by decide
theorem test_rIdleInIdle_V5 : nextIs (step (onR (holding 0xA4 State.reset))) (fun t => t.rbin == 0 && t.stage == .idle) = true := by decide
theorem test_rIdleNoRequest_E8 : nextIs (step (onR ready)) (fun t => t == { ready with stimulus := [] }) = true := by decide
theorem test_rIdleNotReady_H3 :
    nextIs (step (onR (asking 7 0 0 0 (inFrame [0xA4] ready)))) (fun t => !t.txActive && t.faIn) = true := by decide
theorem test_hostReq_H1 :
    nextIs (step (onR (asking 8 0 0x0001 0x002C002B002A ready))) (fun t => t.txActive && t.txBuf.toList == S1 && t.stage == .configured) = true := by decide
theorem test_hostReq_H2 :
    nextIs (step (onR (asking 0xC 0 0 0 ready))) (fun t => t.diagValid && t.diagKind == .badHostRequest && !t.txActive && t.outLen == 0) = true := by decide

-- Section 2.4 through the host rows; the configuration-derived kinds read the latch (R104).
theorem test_hostKReset : nextIs (exec .hostKReset (asking 0 0 0 0 ready)) (fun t => t.txBuf[2] == 0x4A && t.txLen == 5) = true := by decide
theorem test_hostKCapreq : nextIs (exec .hostKCapreq (asking 1 0x54 0 0 ready)) (fun t => t.txBuf[4] == 0x54 && t.txBuf[5] == 0xBF) = true := by decide
theorem test_hostKAssign : nextIs (exec .hostKAssign (asking 2 0 0 0 ready)) (fun t => t.txBuf[4] == 0x10 && t.txBuf[6] == 0xF5) = true := by decide
theorem test_hostKChid : nextIs (exec .hostKChid (asking 3 0 0 0 ready)) (fun t => t.txBuf[4] == 0x34 && t.txBuf[5] == 0x12) = true := by decide
theorem test_hostKPeriod : nextIs (exec .hostKPeriod (asking 4 0 0 0 ready)) (fun t => t.txBuf[4] == 0x00 && t.txBuf[5] == 0x20) = true := by decide
theorem test_hostKFreq : nextIs (exec .hostKFreq (asking 5 0 0 0 ready)) (fun t => t.txBuf[4] == 0x42 && t.txBuf[5] == 0xA1) = true := by decide
theorem test_hostKStimeout : nextIs (exec .hostKStimeout (asking 6 0x0C 0 0 ready)) (fun t => t.txBuf[4] == 0x0C && t.txBuf[5] == 0xEE) = true := by decide
theorem test_hostKOpen : nextIs (exec .hostKOpen (asking 7 0 0 0 ready)) (fun t => t.txBuf[2] == 0x4B && t.txLen == 5) = true := by decide
theorem test_hostKBcast : nextIs (exec .hostKBcast (asking 8 0 0x0001 0x002C002B002A ready)) (fun t => t.txBuf.toList == S1) = true := by decide
theorem test_hostKAckdata : nextIs (exec .hostKAckdata (asking 9 0 0xABCD 0x060504030201 ready)) (fun t => t.txBuf[4] == 0xCD && t.txBuf[12] == 0x83) = true := by decide
theorem test_hostReservedAB : nextIs (exec (.hostReservedAB 1) (asking 0xB 0 0 0 ready)) (fun t => t.diagKind == .badHostRequest) = true := by decide
theorem test_hostReservedCF : nextIs (exec (.hostReservedCF 2) (asking 0xE 0 0 0 ready)) (fun t => t.diagKind == .badHostRequest) = true := by decide

-- Section 2.8: reset, from the middle of a transmission.
theorem test_reset_assertion :
    nextIs (step { sending 2 true with stimulus := [.reset false] })
      (fun t => !t.txActive && t.stage == .idle && rdEmpty t && !wrFull t && t.outLen == 0) = true := by decide

-- The host's probes: the arranged state's next step runs the row (log 10).
theorem test_arrange :
    edgeRow (State.reset.withFetchWord 2 0b10) = some .push ∧
    frameRow (State.reset.withFetchWord 48 0xA4004E000000) = some (.broadcastNoCallback [0xA4, 0x00, 0x4E, 0xEA]) ∧
    hostPortRow (State.reset.withFetchWord 4 0x8) = some .hostKBcast ∧
    asmRow (State.reset.withFetchWord 8 0xA4) = some .huntSync ∧
    txRowOfEdge (State.reset.withFetchWord 48 0xA4014B000000) = some .openChannel := by decide

/-! ### Witnesses: the hypotheses of each obligation are met together -/

theorem witness_DecodeInvertsEncode :
    wellFormed (.eventNoErrorAck ACK) = true ∧ wellFormed (.otherMessage ([0xA4, 0x11, 0x99] ++ List.replicate 17 0x01 ++ [0x2D])) = true ∧
    wellFormed (.length 0x11) = true ∧ wellFormed (.lengthInvalid 0x12) = true := by decide
theorem witness_FrameTableGivesTheDispatchClass : candidateFrame S1 = true ∧ candidateFrame D2 = true := by decide
theorem witness_BuiltFrameBytes : (List.replicate 17 (0x01 : Byte)).length ≤ MAX_PAYLOAD := by decide

theorem witness_RStepAt : RStepAt (onR ready) .current [] := ⟨rfl, rfl, rfl⟩
theorem witness_WStepAt : WStepAt (onW ready) .current [] := ⟨rfl, rfl, rfl⟩
theorem witness_ReadStepFollowsThePriority : RStepAt (onR ready) .current [] ∧ hostReqReady ready = true := ⟨⟨rfl, rfl, rfl⟩, by decide⟩
/-- Each conjunct of R43 alone closes the port. -/
theorem witness_ReadStepFollowsThePriority_not_ready :
    hostReqReady { ready with stage := .openChannel } = false ∧ hostReqReady (sending 0 true) = false ∧
    hostReqReady (holding 0x11 ready) = false ∧ hostReqReady { ready with faIn := true, faPos := 1 } = false := by decide
theorem witness_WriteStepFollowsTheEnables : WStepAt (onW (pushing 1 full4)) .current [] := ⟨rfl, rfl, rfl⟩
theorem witness_StepRunsTheDecodedRow_W : WStepAt (onW ready) .current [] := ⟨rfl, rfl, rfl⟩
theorem witness_StepRunsTheDecodedRow_R : RStepAt (onR ready) .current [] := ⟨rfl, rfl, rfl⟩
theorem witness_ClockEdgesAreNeverRefused : ClockEdge (onR ready) := ⟨.current, [], .inr rfl⟩

theorem witness_PushStoresTheByte :
    WStepAt (onW (pushing 0x11 ready)) .current [] ∧ (onW (pushing 0x11 ready)).ports.wrEn = true ∧
    wrFull (onW (pushing 0x11 ready)) = false ∧ (onW (pushing 0x11 ready)).wbin.toNat < (onW (pushing 0x11 ready)).par.depth :=
  ⟨⟨rfl, rfl, rfl⟩, rfl, by decide, by decide⟩
theorem witness_DroppedPush :
    WStepAt (onW (pushing 0x04 full4)) .current [] ∧ (onW (pushing 0x04 full4)).ports.wrEn = true ∧ wrFull (onW (pushing 0x04 full4)) = true :=
  ⟨⟨rfl, rfl, rfl⟩, rfl, by decide⟩
theorem witness_IdleWriteEdge : WStepAt (onW full4) .current [] ∧ (onW full4).ports.wrEn = false := ⟨⟨rfl, rfl, rfl⟩, rfl⟩
theorem witness_PopRunsTheAssemblerRow :
    let s := onR (holding 0xA4 ready)
    RStepAt s .current [] ∧ s.txActive = false ∧ s.stage ≠ .idle ∧ rdEmpty s = false ∧ s.rbin.toNat < s.par.depth ∧
    memRead s.mem s.rbin.toNat = 0xA4 ∧ asmCase (asmSignals s) 0xA4 = some .huntSync :=
  ⟨⟨rfl, rfl, rfl⟩, rfl, by decide, by decide, by decide, by decide, by decide⟩
theorem witness_SynchronisersShiftAtEveryStep :
    (∃ t, step (onW ready) = .next t ∧ true = true) ∧ WStepAt (onW ready) .current [] ∧
    (∃ t, step (onR ready) = .next t ∧ true = true) ∧ RStepAt (onR ready) .current [] :=
  ⟨exists_next (p := fun _ => true) (by decide), ⟨rfl, rfl, rfl⟩, exists_next (p := fun _ => true) (by decide), ⟨rfl, rfl, rfl⟩⟩
theorem witness_GrayCodeChangesOneBit : (0xFF : Ptr).toNat < Params.default.depth := by decide

/-- A FIFO with one byte in flight and both records set: the invariant is not only true of the empty FIFO. -/
def inFlight : State :=
  { ready with
    mem := [(0, 0x11), (1, 0x22)], wbin := 2, wgray := 3, wgPrev := 1, wgChanged := true, wq := ⟨[1], 1⟩
    rbin := 0, rgray := 0, rq := ⟨[0], 0⟩ }

theorem inFlight_fifoInv : FifoInv inFlight := by
  unfold FifoInv
  decide
theorem holding_fifoInv : FifoInv (onR (holding 0xA4 ready)) := by
  unfold FifoInv
  decide
theorem full4_fifoInv : FifoInv full4 := by
  unfold FifoInv
  decide
theorem witness_FlagsAndOccupancyBounds : FifoInv inFlight ∧ FifoInv full4 := ⟨inFlight_fifoInv, full4_fifoInv⟩

theorem witness_HuntingRows : popAllowed ready = true ∧ ready.faIn = false ∧ (0x11 : Byte) ≠ 0xA4 := by decide
theorem witness_ResyncAtAnyPosition : popAllowed (inFrame (S1.take 12) ready) = true ∧ (inFrame (S1.take 12) ready).faIn = true := by decide
theorem witness_LengthRows :
    popAllowed (inFrame [0xA4] ready) = true ∧ (inFrame [0xA4] ready).faIn = true ∧ (inFrame [0xA4] ready).faPos = 1 ∧
    (0x11 : Byte) ≠ 0xA4 ∧ (0x11 : Byte).toNat ≤ 17 ∧ (0x12 : Byte) ≠ 0xA4 ∧ 17 < (0x12 : Byte).toNat := by decide
theorem witness_MessageIdRow :
    popAllowed (inFrame [0xA4, 0x11] ready) = true ∧ (inFrame [0xA4, 0x11] ready).faIn = true ∧
    (inFrame [0xA4, 0x11] ready).faPos = 2 ∧ (0x4E : Byte) ≠ 0xA4 := by decide

/-- The frame of vector A3 up to its last payload byte. -/
def longFrame : List Byte := [0xA4, 0x11, 0x4E] ++ List.replicate 17 0x01

theorem witness_PayloadRow :
    let s := inFrame (longFrame.take 19) ready
    popAllowed s = true ∧ s.faIn = true ∧ 3 ≤ s.faPos.toNat ∧ s.faPos.toNat < s.faBuf[1].toNat + 3 ∧ s.faPos.toNat ≤ 20 := by decide
theorem witness_ChecksumByteRunsTheFrameRow_longest :
    let s := inFrame longFrame ready
    popAllowed s = true ∧ s.faIn = true ∧ 3 ≤ s.faPos.toNat ∧ s.faPos.toNat ≤ 20 ∧ s.faPos.toNat = s.faBuf[1].toNat + 3 ∧
    xorAll (s.faBuf.toList.take s.faPos.toNat) = 0xFA := by decide
theorem witness_ChecksumByteRunsTheFrameRow_shortest :
    let s := inFrame [0xA4, 0x00, 0x4E] ready
    popAllowed s = true ∧ s.faIn = true ∧ 3 ≤ s.faPos.toNat ∧ s.faPos.toNat ≤ 20 ∧ s.faPos.toNat = s.faBuf[1].toNat + 3 ∧
    xorAll (s.faBuf.toList.take s.faPos.toNat) ≠ 0xEB := by decide
theorem witness_EmbeddedFrameIsDispatchedOnce :
    ready.faIn = false ∧ (∀ b ∈ ([0x11, 0x22] : List Byte), b ≠ 0xA4) ∧ candidateFrame (longFrame ++ [0xFA]) = true := by decide

theorem witness_ReportingRows_checksum : popAllowed ready = true ∧ frameShape A10 = true ∧ checksumOk A10 = false := by decide
theorem witness_ReportingRows_malformed :
    frameShape [0xA4, 0x02, 0x40, 0x00, 0x01, 0xE7] = true ∧ checksumOk [0xA4, 0x02, 0x40, 0x00, 0x01, 0xE7] = true ∧
    frameByte [0xA4, 0x02, 0x40, 0x00, 0x01, 0xE7] 2 = 0x40 ∧ (frameByte [0xA4, 0x02, 0x40, 0x00, 0x01, 0xE7] 1).toNat < 3 := by decide
theorem witness_ReportingRows_function :
    frameShape D4 = true ∧ checksumOk D4 = true ∧ frameByte D4 2 = 0x40 ∧ 3 ≤ (frameByte D4 1).toNat ∧ frameByte D4 4 ≠ 0x01 := by decide
theorem witness_ReportingRows_other_event :
    let F : List Byte := [0xA4, 0x03, 0x40, 0x00, 0x01, 0x04, 0xE2]
    frameShape F = true ∧ checksumOk F = true ∧ frameByte F 2 = 0x40 ∧ 3 ≤ (frameByte F 1).toNat ∧ frameByte F 4 = 0x01 ∧
    4 ≤ (frameByte F 5).toNat := by decide
theorem witness_ReportingRows_other_message :
    frameShape D19 = true ∧ checksumOk D19 = true ∧ frameByte D19 2 ≠ 0x40 ∧ frameByte D19 2 ≠ 0x4E := by decide
theorem witness_SilentRows_ignored :
    popAllowed ready = true ∧ frameShape D8 = true ∧ checksumOk D8 = true ∧ frameByte D8 2 = 0x40 ∧ 3 ≤ (frameByte D8 1).toNat ∧
    frameByte D8 4 = 0x01 ∧ frameByte D8 5 = 0x00 ∧ waiting ready = false := by decide
theorem witness_SilentRows_rx_fail :
    frameShape D10 = true ∧ checksumOk D10 = true ∧ frameByte D10 2 = 0x40 ∧ 3 ≤ (frameByte D10 1).toNat ∧ frameByte D10 4 = 0x01 ∧
    frameByte D10 5 = 0x02 := by decide
theorem witness_SilentRows_no_callbacks :
    popAllowed readyNoCallback = true ∧ frameShape D11 = true ∧ checksumOk D11 = true ∧ frameByte D11 2 = 0x40 ∧
    3 ≤ (frameByte D11 1).toNat ∧ frameByte D11 4 = 0x01 ∧ frameByte D11 5 = 0x03 ∧ readyNoCallback.cfgQ.txcEn = false ∧
    frameShape S1 = true ∧ checksumOk S1 = true ∧ frameByte S1 2 = 0x4E ∧ readyNoCallback.cfgQ.bcastEn = false := by decide
theorem witness_CallbackRows :
    popAllowed ready = true ∧ frameShape D11 = true ∧ checksumOk D11 = true ∧ frameByte D11 2 = 0x40 ∧
    3 ≤ (frameByte D11 1).toNat ∧ frameByte D11 4 = 0x01 ∧ frameByte D11 5 = 0x03 ∧ ready.cfgQ.txcEn = true ∧
    frameShape S1 = true ∧ checksumOk S1 = true ∧ frameByte S1 2 = 0x4E ∧ ready.cfgQ.bcastEn = true := by decide
theorem witness_AcknowledgmentAdvancesTheStage :
    (∀ g ∈ [Stage.assignChannel, .setChannelId, .setPeriod, .setFrequency, .openChannel, .addressAnnounce], waiting (waitingIn g) = true) ∧
    waiting slaveOpen = true ∧ slaveOpen.stage = .openChannel ∧ slaveOpen.cfgQ.role = .slave ∧ (waitingIn .openChannel).cfgQ.role = .master ∧
    frameShape ACK = true ∧ checksumOk ACK = true ∧ frameByte ACK 2 = 0x40 ∧ 3 ≤ (frameByte ACK 1).toNat ∧ frameByte ACK 4 = 0x01 ∧
    frameByte ACK 5 = 0x00 := by decide
theorem witness_SearchTimeoutRestarts :
    popAllowed ready = true ∧ frameShape TMO = true ∧ checksumOk TMO = true ∧ frameByte TMO 2 = 0x40 ∧
    3 ≤ (frameByte TMO 1).toNat ∧ frameByte TMO 4 = 0x01 ∧ frameByte TMO 5 = 0x01 := by decide

theorem witness_CommandRowsLoadTheirFrames : ready.txActive = false := rfl
theorem witness_DataRowsLoadTheirFrames : ready.txActive = false := rfl
theorem witness_LoadedFramesAreTheEncodings :
    encode ready.par .openChannel = .txFrame .kOpen [0xA4, 0x01, 0x4B, 0x00, 0xEE] ∧ ∃ t, exec .openChannel ready = .next t ∧ true = true :=
  ⟨by decide, exists_next (p := fun _ => true) (by decide)⟩
theorem witness_TxByteHandsOverOneByte_last :
    let s := onR (sending 4 true)
    RStepAt s .current [] ∧ s.txActive = true ∧ s.ports.txReady = true ∧ s.txIdx.toNat < 13 ∧ s.txIdx + 1 = s.txLen :=
  ⟨⟨rfl, rfl, rfl⟩, rfl, rfl, by decide, by decide⟩
theorem witness_TxByteHandsOverOneByte_more :
    let s := onR (sending 0 true)
    RStepAt s .current [] ∧ s.txActive = true ∧ s.ports.txReady = true ∧ s.txIdx.toNat < 13 ∧ s.txIdx + 1 ≠ s.txLen :=
  ⟨⟨rfl, rfl, rfl⟩, rfl, rfl, by decide, by decide⟩
theorem witness_TxStallHolds :
    let s := onR (sending 0 false)
    RStepAt s .current [] ∧ s.txActive = true ∧ s.ports.txReady = false := ⟨⟨rfl, rfl, rfl⟩, rfl, rfl⟩

theorem witness_StartLatchesTheConfiguration :
    RStepAt (onR starting) .current [] ∧ (onR starting).txActive = false ∧ (onR starting).stage = .idle ∧
    (onR starting).ports.host.start = true ∧ RStepAt (onR ready) .current [] ∧ (onR ready).stage ≠ .idle :=
  ⟨⟨rfl, rfl, rfl⟩, rfl, rfl, rfl, ⟨rfl, rfl, rfl⟩, by decide⟩
theorem witness_IdleReadEdges_in_Idle :
    let s := onR State.reset
    RStepAt s .current [] ∧ s.txActive = false ∧ s.stage = .idle ∧ s.ports.host.start = false := ⟨⟨rfl, rfl, rfl⟩, rfl, rfl, rfl⟩
theorem witness_IdleReadEdges_no_request :
    let s := onR ready
    RStepAt s .current [] ∧ s.txActive = false ∧ s.stage ≠ .idle ∧ rdEmpty s = true ∧ s.ports.host.reqValid = false :=
  ⟨⟨rfl, rfl, rfl⟩, rfl, by decide, by decide, rfl⟩
theorem witness_IdleReadEdges_not_ready :
    let s := onR (asking 7 0 0 0 (inFrame [0xA4] ready))
    RStepAt s .current [] ∧ s.txActive = false ∧ s.stage ≠ .idle ∧ rdEmpty s = true ∧ s.ports.host.reqValid = true ∧ hostReqReady s = false :=
  ⟨⟨rfl, rfl, rfl⟩, rfl, by decide, by decide, rfl, by decide⟩
theorem witness_HostKindsLoadTheirCommands :
    ∀ k ∈ ([0, 1, 2, 3, 4, 5, 6, 7, 8, 9] : List (BitVec 4)),
      hostReqReady (asking k 0 0 0 ready) = true ∧ (asking k 0 0 0 ready).ports.host.reqValid = true ∧
      (asking k 0 0 0 ready).ports.host.reqKind = k := by decide
theorem witness_ReservedKindsReport :
    (∀ k ∈ ([0xA, 0xB, 0xC, 0xF] : List (BitVec 4)),
      hostReqReady (asking k 0 0 0 ready) = true ∧ (asking k 0 0 0 ready).ports.host.reqValid = true) ∧
    (asking 0xA 0 0 0 ready).ports.host.reqKind = 0b101#3 ++ 0#1 ∧
    (asking 0xB 0 0 0 ready).ports.host.reqKind = 0b101#3 ++ 1#1 ∧ (asking 0xC 0 0 0 ready).ports.host.reqKind = 0b11#2 ++ 0#2 ∧
    (asking 0xF 0 0 0 ready).ports.host.reqKind = 0b11#2 ++ 3#2 := by decide
theorem witness_HostRequestRunsTheKindsRow :
    let s := onR (asking 8 0 1 2 ready)
    RStepAt s .current [] ∧ hostReqReady s = true ∧ s.ports.host.reqValid = true := ⟨⟨rfl, rfl, rfl⟩, by decide, rfl⟩

theorem witness_ResetAssertionResetsBothDomains : ({ ready with stimulus := [.reset false] } : State).stimulus = [.reset false] := rfl
theorem witness_EdgesInReset_asserted :
    let s : State := { assertReset ready with stimulus := [.wclk .current, .rclk .current] }
    s.stimulus = .wclk .current :: [.rclk .current] ∧ s.ports.rstN = false := ⟨rfl, rfl⟩
theorem witness_EdgesInReset_releasing :
    let s : State := { releaseReset (assertReset ready) with stimulus := [.rclk .previous] }
    s.stimulus = [.rclk .previous] ∧ s.ports.rstN = true ∧ s.rRst.ff2 = false := ⟨rfl, rfl, rfl⟩
theorem witness_AgentsOnlyDriveTheirPorts :
    State.reset.stimulus = [] ∧ ({ ready with stimulus := [.producer true 0x11] } : State).stimulus = [.producer true 0x11] ∧
    ({ ready with stimulus := [.transport false] } : State).stimulus = [.transport false] ∧
    ({ ready with stimulus := [.host .zero] } : State).stimulus = [.host .zero] ∧
    ({ ready with stimulus := [.reset true] } : State).stimulus = [.reset true] := ⟨rfl, rfl, rfl, rfl, rfl⟩
theorem witness_ExactlyTheForbiddenStimuliAreRefused :
    step { ready with stimulus := [.outside .partialReset] } = .refused (.outsideDomain .partialReset) := rfl

theorem witness_ResetMeetsTheInvariants : memWf Params.default [(0, 0x11), (255, 0xFF)] = true := by decide
theorem witness_OutputPortsCarryTheRegisters :
    ready.txActive = false ∧ (sending 0 true).txActive = true ∧ (sending 0 true).txIdx.toNat < 13 := by decide

theorem witness_FifoInvariantIsKept_pop : FifoInv (onR (holding 0xA4 ready)) ∧ ∃ t, step (onR (holding 0xA4 ready)) = .next t ∧ (t.rbin == 1) = true :=
  ⟨holding_fifoInv, exists_next (by decide)⟩
theorem witness_FifoInvariantIsKept_push :
    FifoInv (onW (pushing 0x33 inFlight)) ∧ ∃ t, step (onW (pushing 0x33 inFlight)) = .next t ∧ (t.wbin == 3) = true :=
  ⟨by unfold FifoInv; decide, exists_next (by decide)⟩
theorem witness_FifoRefinesAQueue :
    wRow (onW (pushing 0x33 inFlight)) = some .push ∧ rRow (onR (holding 0xA4 ready)) = some .pop ∧
    wRow (onW full4) ≠ some .push ∧ rRow (onW full4) ≠ some .pop := by decide
theorem witness_StorageFormIsKept : MemInv (onW (pushing 0x33 inFlight)) ∧ ∃ t, step (onW (pushing 0x33 inFlight)) = .next t ∧ (t.wbin == 3) = true :=
  ⟨by unfold MemInv; decide, exists_next (by decide)⟩

/-- The last payload byte of vector A3 is popped next. -/
def lastPayload : State := onR (holding 0x01 (inFrame (longFrame.take 19) ready))

theorem witness_AssemblerInvariantIsKept : AssemblerInv lastPayload ∧ ∃ t, step lastPayload = .next t ∧ (t.faPos == 20) = true :=
  ⟨by unfold AssemblerInv; decide, exists_next (by decide)⟩
theorem witness_TransmitInvariantIsKept : TransmitInv (onR (sending 2 true)) ∧ ∃ t, step (onR (sending 2 true)) = .next t ∧ (t.txIdx == 3) = true :=
  ⟨by unfold TransmitInv; decide, exists_next (by decide)⟩

/-- The checksum byte of S1 is popped next. -/
def lastOfS1 : State := onR (holding 0xCF (inFrame (S1.take 12) ready))

theorem witness_OutputInvariantIsKept : OutputInv lastOfS1 ∧ ∃ t, step lastOfS1 = .next t ∧ t.bcastEvt = true :=
  ⟨by unfold OutputInv; decide, exists_next (by decide)⟩
theorem witness_ResetInvariantIsKept :
    ResetInv { releaseReset (assertReset ready) with stimulus := [.rclk .current] } ∧
    ∃ t, step { releaseReset (assertReset ready) with stimulus := [.rclk .current] } = .next t ∧ t.rRst.ff1 = true :=
  ⟨by unfold ResetInv; decide, exists_next (by decide)⟩
theorem witness_NoStepFaults : FifoInv lastOfS1 ∧ AssemblerInv lastOfS1 ∧ TransmitInv lastOfS1 :=
  ⟨by unfold FifoInv; decide, by unfold AssemblerInv; decide, by unfold TransmitInv; decide⟩

theorem witness_StageChanges_start : ∃ t, step (onR starting) = .next t ∧ (t.stage != (onR starting).stage) = true := exists_next (by decide)
theorem witness_StageChanges_ack :
    ∃ t, step (onR (holding 0xE6 (inFrame (ACK.take 6) (waitingIn .setPeriod)))) = .next t ∧ (t.stage == .setFrequency) = true := exists_next (by decide)
theorem witness_StageChanges_timeout :
    ∃ t, step (onR (holding 0xE7 (inFrame (TMO.take 6) ready))) = .next t ∧ (t.stage == .assignChannel) = true := exists_next (by decide)
theorem witness_StageChanges_reset : ∃ t, step { ready with stimulus := [.reset false] } = .next t ∧ (t.stage == .idle) = true := exists_next (by decide)
theorem witness_ConfigurationIsLatchedOnce :
    (∃ t, step (onR starting) = .next t ∧ (t.cfgQ != (onR starting).cfgQ) = true) ∧
    ∃ t, step { ready with stimulus := [.reset false] } = .next t ∧ (t.cfgQ != ready.cfgQ) = true :=
  ⟨exists_next (by decide), exists_next (by decide)⟩
theorem witness_EachDomainWritesItsOwnState :
    (∃ t, step (onW (pushing 0x33 inFlight)) = .next t ∧ (t.wbin == 3) = true) ∧ (onW (pushing 0x33 inFlight)).stimulus = .wclk .current :: [] ∧
    (∃ t, step lastOfS1 = .next t ∧ t.bcastEvt = true) ∧ lastOfS1.stimulus = .rclk .current :: [] :=
  ⟨exists_next (by decide), rfl, exists_next (by decide), rfl⟩
theorem witness_ReadDomainSeesOnlyTheGrayPointer :
    lastOfS1.stimulus = .rclk .current :: [] ∧ memRead [(0, 0xCF), (7, 0x55)] lastOfS1.rbin.toNat = memRead lastOfS1.mem lastOfS1.rbin.toNat ∧
    ∃ t, step lastOfS1 = .next t ∧ t.bcastEvt = true := ⟨rfl, by decide, exists_next (by decide)⟩
theorem witness_WriteDomainSeesOnlyTheGrayPointer :
    let s := onW (pushing 0x33 inFlight)
    let s' : State := { s with stage := .idle, wq := ⟨[0], 0⟩, rbin := 1, txActive := true }
    s.stimulus = .wclk .current :: [] ∧ s'.stimulus = s.stimulus ∧ s'.par = s.par ∧ s'.ports.rstN = s.ports.rstN ∧ s'.ports.wrEn = s.ports.wrEn ∧
    s'.ports.wrData = s.ports.wrData ∧ s'.wRst = s.wRst ∧ s'.wbin = s.wbin ∧ s'.wgray = s.wgray ∧ s'.rq = s.rq ∧ s'.mem = s.mem ∧
    s'.rgray = s.rgray ∧ s'.rgPrev = s.rgPrev ∧ s'.rgChanged = s.rgChanged ∧ ∃ t, step s = .next t ∧ (t.wbin == 3) = true :=
  ⟨rfl, rfl, rfl, rfl, rfl, rfl, rfl, rfl, rfl, rfl, rfl, rfl, rfl, rfl, exists_next (by decide)⟩
theorem witness_PulsesLastOneCycle :
    RStepAt (onR { ready with bcastEvt := true }) .current [] ∧
    (∃ t, step (onR { ready with bcastEvt := true }) = .next t ∧ (!t.bcastEvt) = true) ∧
    latchedByEdge (onR { ready with bcastEvt := true }) = none :=
  ⟨⟨rfl, rfl, rfl⟩, exists_next (by decide), by decide⟩
/-- A broadcast, a request of a command kind and one of a reserved kind, each after a pulse. -/
theorem witness_PulsesLastOneCycle_set :
    (∃ t, step { lastOfS1 with txcEvt := true } = .next t ∧ (t.bcastEvt && !t.txcEvt) = true) ∧
    latchedByEdge { lastOfS1 with txcEvt := true } = some S1 ∧
    (∃ t, step (onR { asking 0x8 0 0 0 ready with diagValid := true }) = .next t ∧ (!t.diagValid) = true) ∧
    (∃ t, step (onR { asking 0xA 0 0 0 ready with bcastEvt := true }) = .next t ∧ (t.diagValid && !t.bcastEvt) = true) ∧
    reportOfEdge (onR { asking 0xA 0 0 0 ready with bcastEvt := true }) = some .badHostRequest :=
  ⟨exists_next (by decide), by decide, exists_next (by decide), exists_next (by decide), by decide⟩
theorem witness_NoConsumptionWhileTransmittingOrIdle :
    (onR (holding 0xA4 (sending 0 true))).stimulus = .rclk .current :: [] ∧
    (∃ t, step (onR (holding 0xA4 (sending 0 true))) = .next t ∧ (t.txIdx == 1) = true) ∧ (onR (holding 0xA4 (sending 0 true))).txActive = true ∧
    (∃ t, step (onR (holding 0xA4 State.reset)) = .next t ∧ (t.rbin == 0) = true) ∧ (onR (holding 0xA4 State.reset)).stage = .idle :=
  ⟨rfl, exists_next (by decide), rfl, exists_next (by decide), rfl⟩
theorem witness_BroadcastRoundTrip :
    let s := asking 8 0 0x0001 0x002C002B002A ready
    s.txActive = false ∧ hostReqReady s = true ∧ s.ports.host.reqValid = true ∧ s.ports.host.reqKind = 0x8 ∧
    (∃ t, exec .hostKBcast s = .next t ∧ (t.txLen.toNat == 13 && !(t.txBuf.toList.take 13).tail.contains 0xA4) = true) ∧
    ready.faIn = false ∧ ready.cfgQ.bcastEn = true :=
  ⟨rfl, by decide, rfl, rfl, exists_next (by decide), rfl, rfl⟩

end Sys2Proof.Tests
end

