-- ==== Sys2Proof/Proofs/AgentEvents.lean ====
section
/-! PROOFS. The step on an event of an external agent, one equation per event (R17, R289, R312, R330), and O41. -/
namespace Sys2Proof.Machine

open Sys2Proof

/-! ### The step on an agent's event -/

section
variable {s : State} {rest : List Stimulus}

/-- R312: no event, no clock edge, so every register holds. -/
theorem step_of_no_event (h : s.stimulus = []) : step s = .next s := by
  simp only [step, h]

theorem step_of_producer {en : Bool} {b : Byte} (h : s.stimulus = .producer en b :: rest) :
    step s = .next (driveProducer en b s) := by
  simp only [step, h]

theorem step_of_transport {r : Bool} (h : s.stimulus = .transport r :: rest) :
    step s = .next (driveTransport r s) := by
  simp only [step, h]

theorem step_of_host {p : HostPorts} (h : s.stimulus = .host p :: rest) :
    step s = .next (driveHost p s) := by
  simp only [step, h]

theorem step_of_reset {r : Bool} (h : s.stimulus = .reset r :: rest) :
    step s = .next (driveReset r s) := by
  simp only [step, h]

/-- R331: the release of `rst_n` moves the port alone; the domains leave reset at later edges. -/
theorem driveReset_release (s : State) :
    driveReset true s = { s with ports := { s.ports with rstN := true }, stimulus := s.stimulus.tail } := rfl

end

/-! ### The statement -/

/-- Settles O41: each clause is the step's equation for that event, with the driven ports written out; the tail of the
stimulus list is what the event leaves. -/
theorem agentsOnlyDriveTheirPorts : Obligations.AgentsOnlyDriveTheirPorts := by
  intro s rest
  refine ⟨step_of_no_event, fun en b h => ?producer, fun r h => ?transport, fun p h => ?host, fun h => ?release⟩
  case producer => rw [step_of_producer h, driveProducer, h, List.tail_cons]
  case transport => rw [step_of_transport h, driveTransport, h, List.tail_cons]
  case host => rw [step_of_host h, driveHost, h, List.tail_cons]
  case release => rw [step_of_reset h, driveReset_release, h, List.tail_cons]

end Sys2Proof.Machine
end

/-! PROOFS. Pointers: what `gray`, `bin`, `inc` and `dist` do to pointers below DEPTH (R11, R46, R139), for every AW. -/
namespace Sys2Proof

/-! ### Gray code (R11) -/

/-- The shifts telescope: each shifted copy of `b` but the first meets itself. -/
theorem bin_gray (b : Ptr) : bin (gray b) = b := by
  have shiftedOut : b >>> 8 = 0#8 := BitVec.ushiftRight_eq_zero (Nat.le_refl 8)
  have cancel (x y : Ptr) : x ^^^ (x ^^^ y) = y := by rw [← BitVec.xor_assoc, BitVec.xor_self, BitVec.zero_xor]
  simp only [bin, gray, BitVec.ushiftRight_xor_distrib, ← BitVec.shiftRight_add, BitVec.xor_assoc, cancel,
    Nat.reduceAdd, shiftedOut, BitVec.xor_self, BitVec.xor_zero]

theorem gray_bin (g : Ptr) : gray (bin g) = g := by
  have shiftedOut : g >>> 8 = 0#8 := BitVec.ushiftRight_eq_zero (Nat.le_refl 8)
  have tail : bin g >>> 1 = g >>> 1 ^^^ g >>> 2 ^^^ g >>> 3 ^^^ g >>> 4 ^^^ g >>> 5 ^^^ g >>> 6 ^^^ g >>> 7 := by
    simp only [bin, BitVec.ushiftRight_xor_distrib, ← BitVec.shiftRight_add, Nat.reduceAdd, shiftedOut, BitVec.xor_zero]
  have head : bin g = g ^^^ bin g >>> 1 := by rw [tail]; simp only [bin, BitVec.xor_assoc]
  calc gray (bin g) = g ^^^ bin g >>> 1 ^^^ bin g >>> 1 := by rw [gray, ← head]
    _ = g := by rw [BitVec.xor_assoc, BitVec.xor_self, BitVec.xor_zero]

/-- A right shift and an XOR stay below a power of two, so they leave the bits above AW at 0. -/
theorem toNat_xor_shift_lt {n k : Nat} {x g : Ptr} (hx : x.toNat < 2 ^ n) (hg : g.toNat < 2 ^ n) :
    (x ^^^ g >>> k).toNat < 2 ^ n := by
  rw [BitVec.toNat_xor, BitVec.toNat_ushiftRight]
  exact Nat.xor_lt_two_pow hx (Nat.lt_of_le_of_lt (Nat.shiftRight_le _ _) hg)

variable {p : Params} {a b g : Ptr}

theorem gray_lt_depth (h : b.toNat < p.depth) : (gray b).toNat < p.depth := toNat_xor_shift_lt h h

theorem bin_lt_depth (h : g.toNat < p.depth) : (bin g).toNat < p.depth := by
  unfold bin
  iterate 7 refine toNat_xor_shift_lt ?_ h
  exact h

/-! ### Pointer arithmetic (R46, R139) -/

theorem Params.depth_dvd (p : Params) : p.depth ∣ 256 := Nat.pow_dvd_pow 2 p.awMinusOne.isLt

theorem Params.depth_le (p : Params) : p.depth ≤ 256 := Nat.le_of_dvd (by decide) p.depth_dvd

theorem Params.two_le_depth (p : Params) : 2 ≤ p.depth := Nat.le_self_pow (by simp [Params.aw]) 2

theorem Params.toNat_and_mask (p : Params) (x : Ptr) : (x &&& p.mask).toNat = x.toNat % p.depth := by
  have hmask : p.mask.toNat = 2 ^ p.aw - 1 :=
    Nat.mod_eq_of_lt (Nat.lt_of_lt_of_le (Nat.sub_lt (Nat.two_pow_pos _) Nat.one_pos) p.depth_le)
  rw [BitVec.toNat_and, hmask, Nat.and_two_pow_sub_one_eq_mod, Params.depth]

theorem Params.toNat_inc (h : b.toNat < p.depth) :
    (p.inc b).toNat = if b.toNat + 1 = p.depth then 0 else b.toNat + 1 := by
  have hmod : (p.inc b).toNat = (b.toNat + 1) % p.depth := by
    rw [Params.inc, Params.toNat_and_mask, BitVec.toNat_add]
    exact Nat.mod_mod_of_dvd _ p.depth_dvd
  rw [hmod]
  split
  · next hb => rw [hb, Nat.mod_self]
  · exact Nat.mod_eq_of_lt (by omega)

theorem Params.inc_lt_depth (h : b.toNat < p.depth) : (p.inc b).toNat < p.depth := by
  rw [Params.toNat_inc h]; split <;> omega

theorem Params.toNat_dist (ha : a.toNat < p.depth) (hb : b.toNat < p.depth) :
    (p.dist a b).toNat = if a.toNat ≤ b.toNat then b.toNat - a.toNat else b.toNat + p.depth - a.toNat := by
  have hmod : (p.dist a b).toNat = (256 - a.toNat + b.toNat) % p.depth := by
    rw [Params.dist, Params.toNat_and_mask, BitVec.toNat_sub]
    exact Nat.mod_mod_of_dvd _ p.depth_dvd
  obtain ⟨k, hk⟩ := p.depth_dvd
  have hle := p.depth_le
  rw [hmod]
  split
  · rw [show 256 - a.toNat + b.toNat = b.toNat - a.toNat + p.depth * k by omega, Nat.add_mul_mod_self_left]
    exact Nat.mod_eq_of_lt (by omega)
  · rw [← Nat.add_mod_right, show 256 - a.toNat + b.toNat + p.depth = b.toNat + p.depth - a.toNat + p.depth * k by omega,
      Nat.add_mul_mod_self_left]
    exact Nat.mod_eq_of_lt (by omega)

theorem Params.dist_lt_depth (p : Params) (a b : Ptr) : (p.dist a b).toNat < p.depth := by
  rw [Params.dist, Params.toNat_and_mask]
  exact Nat.mod_lt _ (Nat.two_pow_pos _)

section
variable (ha : a.toNat < p.depth) (hb : b.toNat < p.depth)
include ha hb

theorem Params.dist_eq_zero_iff : (p.dist a b).toNat = 0 ↔ a = b := by
  rw [Params.toNat_dist ha hb, ← BitVec.toNat_inj]; split <;> omega

theorem Params.dist_eq_capacity_iff : (p.dist a b).toNat = p.capacity ↔ a = p.inc b := by
  rw [Params.toNat_dist ha hb, ← BitVec.toNat_inj, Params.toNat_inc hb, Params.capacity]
  split <;> split <;> omega

/-- Moving the pointer ahead adds one to the distance, modulo DEPTH. -/
theorem Params.dist_inc_right :
    (p.dist a (p.inc b)).toNat = if (p.dist a b).toNat + 1 = p.depth then 0 else (p.dist a b).toNat + 1 := by
  rw [Params.toNat_dist ha (Params.inc_lt_depth hb), Params.toNat_dist ha hb, Params.toNat_inc hb]
  grind

/-- Moving the pointer behind takes one from the distance, modulo DEPTH. -/
theorem Params.dist_eq_dist_inc_left :
    (p.dist a b).toNat = if (p.dist (p.inc a) b).toNat + 1 = p.depth then 0 else (p.dist (p.inc a) b).toNat + 1 := by
  rw [Params.toNat_dist (Params.inc_lt_depth ha) hb, Params.toNat_dist ha hb, Params.toNat_inc ha]
  grind

end

theorem Params.dist_self (h : a.toNat < p.depth) : (p.dist a a).toNat = 0 := (Params.dist_eq_zero_iff h h).2 rfl

end Sys2Proof

/-! PROOFS. The FIFO's invariant (R27, R30, R46, R140): its clauses by name, what each domain's view says, and that the
pointer writes of PUSH and POP, the two synchronisers' shifts and reset keep it. O44, O15. -/
namespace Sys2Proof.Machine

open Sys2Proof

/-! ### The clauses by name -/

/-- The clauses of `FifoInv` as named fields (`fifoInv_iff`). -/
structure FifoClauses (s : State) : Prop where
  wbin_lt : s.wbin.toNat < s.par.depth
  rbin_lt : s.rbin.toNat < s.par.depth
  wgray_eq : s.wgray = gray s.wbin
  rgray_eq : s.rgray = gray s.rbin
  wq_length : s.wq.stages.length + 1 = s.par.syncStages
  rq_length : s.rq.stages.length + 1 = s.par.syncStages
  wq_lt : ∀ g ∈ s.wq.toList, g.toNat < s.par.depth
  rq_lt : ∀ g ∈ s.rq.toList, g.toNat < s.par.depth
  /-- Along `wq` the R domain sees ever older write pointers. -/
  wq_older : List.Pairwise (· ≥ ·) ((occ s).toNat :: s.wq.toList.map (seenAhead s))
  /-- Along `rq` the W domain sees ever older read pointers. -/
  rq_older : List.Pairwise (· ≤ ·) ((occ s).toNat :: s.rq.toList.map (seenInUse s))
  wgPrev_one_old : s.wgChanged = true → s.par.inc (bin s.wgPrev) = s.wbin ∧ s.wgPrev.toNat < s.par.depth ∧
    ∀ g ∈ s.wq.toList, seenAhead s g < (occ s).toNat
  rgPrev_one_old : s.rgChanged = true → s.par.inc (bin s.rgPrev) = s.rbin ∧ s.rgPrev.toNat < s.par.depth ∧
    ∀ g ∈ s.rq.toList, (occ s).toNat < seenInUse s g

theorem fifoInv_iff {s : State} : FifoInv s ↔ FifoClauses s :=
  ⟨fun ⟨h1, h2, h3, h4, h5, h6, h7, h8, h9, h10, h11, h12⟩ => ⟨h1, h2, h3, h4, h5, h6, h7, h8, h9, h10, h11, h12⟩,
    fun ⟨h1, h2, h3, h4, h5, h6, h7, h8, h9, h10, h11, h12⟩ => ⟨h1, h2, h3, h4, h5, h6, h7, h8, h9, h10, h11, h12⟩⟩

/-! ### The flip-flops of a synchroniser -/

theorem Sync.last_mem_toList (q : Sync) : q.last ∈ q.toList := by simp [Sync.toList]

theorem Sync.mem_toList_shift {q : Sync} {g x : Ptr} (h : x ∈ (q.shift g).toList) : x = g ∨ x ∈ q.toList := by
  rw [Sync.toList_shift, List.mem_cons] at h
  exact h.imp_right List.mem_of_mem_dropLast

/-- Where the flip-flops are ordered, the last one is at the end of the order. -/
theorem Sync.rel_last_of_pairwise {R : Nat → Nat → Prop} (hrefl : ∀ n, R n n) {q : Sync} {f : Ptr → Nat}
    (h : (q.toList.map f).Pairwise R) {g : Ptr} (hg : g ∈ q.toList) : R (f g) (f q.last) := by
  simp only [Sync.toList, List.map_append, List.map_cons, List.map_nil, List.pairwise_append, List.mem_map] at h
  simp only [Sync.toList, List.mem_append, List.mem_singleton] at hg
  rcases hg with hg | rfl
  · exact h.2.2 _ ⟨g, hg, rfl⟩ _ List.mem_cons_self
  · exact hrefl _

/-- A shift keeps the order where the sample fits in before every flip-flop. -/
theorem Sync.pairwise_shift {R : Nat → Nat → Prop} {o : Nat} {q : Sync} {f : Ptr → Nat} {g : Ptr}
    (h : List.Pairwise R (o :: q.toList.map f)) (ho : R o (f g)) (hg : ∀ x ∈ q.toList, R (f g) (f x)) :
    List.Pairwise R (o :: (q.shift g).toList.map f) := by
  have hsub : List.Sublist (q.toList.dropLast.map f) (q.toList.map f) := (List.dropLast_sublist _).map f
  rw [List.pairwise_cons] at h
  obtain ⟨hfirst, hrest⟩ := h
  rw [Sync.toList_shift, List.map_cons, List.pairwise_cons, List.pairwise_cons]
  refine ⟨?_, ?_, hrest.sublist hsub⟩
  · rintro n hn
    rcases List.mem_cons.1 hn with rfl | hn
    · exact ho
    · exact hfirst n (hsub.subset hn)
  · intro n hn
    obtain ⟨x, hx, rfl⟩ := List.mem_map.1 (hsub.subset hn)
    exact hg x hx

/-- An order is kept where every value of the sequence moves alike. -/
theorem pairwise_cons_map_of_forall {R : Nat → Nat → Prop} {k : Nat → Nat} {o o' : Nat} {l : List Ptr} {f f' : Ptr → Nat}
    (h : List.Pairwise R (o :: l.map f)) (ho : o' = k o) (hf : ∀ g ∈ l, f' g = k (f g))
    (hk : ∀ a b, R a b → R (k a) (k b)) : List.Pairwise R (o' :: l.map f') := by
  have : o' :: l.map f' = (o :: l.map f).map k := by
    rw [List.map_cons, List.map_map, ho]
    exact congrArg _ (List.map_congr_left hf)
  rw [this, List.pairwise_map]
  exact h.imp (hk _ _)

/-! ### What each domain sees -/

namespace FifoClauses

section
variable {s : State} (h : FifoClauses s) {g : Ptr}
include h

theorem seenAhead_le_occ (hg : g ∈ s.wq.toList) : seenAhead s g ≤ (occ s).toNat :=
  (List.pairwise_cons.1 h.wq_older).1 _ (List.mem_map_of_mem hg)

theorem occR_le_seenAhead (hg : g ∈ s.wq.toList) : (occR s).toNat ≤ seenAhead s g :=
  Sync.rel_last_of_pairwise (R := (· ≥ ·)) Nat.le_refl (List.pairwise_cons.1 h.wq_older).2 hg

theorem occ_le_seenInUse (hg : g ∈ s.rq.toList) : (occ s).toNat ≤ seenInUse s g :=
  (List.pairwise_cons.1 h.rq_older).1 _ (List.mem_map_of_mem hg)

theorem seenInUse_le_occW (hg : g ∈ s.rq.toList) : seenInUse s g ≤ (occW s).toNat :=
  Sync.rel_last_of_pairwise (R := (· ≤ ·)) Nat.le_refl (List.pairwise_cons.1 h.rq_older).2 hg

theorem bin_wq_lt (hg : g ∈ s.wq.toList) : (bin g).toNat < s.par.depth := bin_lt_depth (h.wq_lt g hg)

theorem bin_rq_lt (hg : g ∈ s.rq.toList) : (bin g).toNat < s.par.depth := bin_lt_depth (h.rq_lt g hg)

theorem wgray_lt : s.wgray.toNat < s.par.depth := h.wgray_eq ▸ gray_lt_depth h.wbin_lt

theorem rgray_lt : s.rgray.toNat < s.par.depth := h.rgray_eq ▸ gray_lt_depth h.rbin_lt

theorem seenAhead_wgray : seenAhead s s.wgray = (occ s).toNat := by rw [seenAhead, h.wgray_eq, bin_gray, occ]

theorem seenInUse_rgray : seenInUse s s.rgray = (occ s).toNat := by rw [seenInUse, h.rgray_eq, bin_gray, occ]

/-- The write pointer R13 may still draw is one entry short of the true one. -/
theorem seenAhead_wgPrev (hc : s.wgChanged = true) : seenAhead s s.wgPrev + 1 = (occ s).toNat := by
  obtain ⟨hinc, hlt, hbelow⟩ := h.wgPrev_one_old hc
  have hpos := hbelow _ s.wq.last_mem_toList
  have hdist := Params.dist_inc_right h.rbin_lt (bin_lt_depth hlt)
  rw [hinc] at hdist
  unfold occ at hpos ⊢
  unfold seenAhead
  split at hdist <;> omega

/-- The read pointer R13 may still draw leaves one entry more in use than the true one. -/
theorem seenInUse_rgPrev (hc : s.rgChanged = true) : seenInUse s s.rgPrev = (occ s).toNat + 1 := by
  obtain ⟨hinc, hlt, habove⟩ := h.rgPrev_one_old hc
  have hroom := habove _ s.rq.last_mem_toList
  have hbound : seenInUse s s.rq.last < s.par.depth := s.par.dist_lt_depth _ _
  have hdist := Params.dist_eq_dist_inc_left (bin_lt_depth hlt) h.wbin_lt
  rw [hinc] at hdist
  unfold occ at hroom ⊢
  rw [seenInUse, hdist]
  split <;> omega

/-- What R13 lets `rclk` sample of the write pointer lies between the first flip-flop of `wq` and the true pointer. -/
theorem wsample_between (d : Draw) :
    let g := sample s.wgChanged d s.wgray s.wgPrev
    g.toNat < s.par.depth ∧ seenAhead s g ≤ (occ s).toNat ∧ ∀ x ∈ s.wq.toList, seenAhead s x ≤ seenAhead s g := by
  rcases sample_cases s.wgChanged d s.wgray s.wgPrev with hg | ⟨hc, hg⟩ <;> rw [hg]
  · refine ⟨h.wgray_lt, h.seenAhead_wgray.le, fun x hx => ?_⟩
    rw [h.seenAhead_wgray]
    exact h.seenAhead_le_occ hx
  · have hone := h.seenAhead_wgPrev hc
    obtain ⟨-, hlt, hbelow⟩ := h.wgPrev_one_old hc
    exact ⟨hlt, by omega, fun x hx => by have := hbelow x hx; omega⟩

/-- What R13 lets `wclk` sample of the read pointer lies between the first flip-flop of `rq` and the true pointer. -/
theorem rsample_between (d : Draw) :
    let g := sample s.rgChanged d s.rgray s.rgPrev
    g.toNat < s.par.depth ∧ (occ s).toNat ≤ seenInUse s g ∧ ∀ x ∈ s.rq.toList, seenInUse s g ≤ seenInUse s x := by
  rcases sample_cases s.rgChanged d s.rgray s.rgPrev with hg | ⟨hc, hg⟩ <;> rw [hg]
  · refine ⟨h.rgray_lt, h.seenInUse_rgray.ge, fun x hx => ?_⟩
    rw [h.seenInUse_rgray]
    exact h.occ_le_seenInUse hx
  · have hone := h.seenInUse_rgPrev hc
    obtain ⟨-, hlt, habove⟩ := h.rgPrev_one_old hc
    exact ⟨hlt, by omega, fun x hx => by have := habove x hx; omega⟩

/-! ### The flags -/

theorem rdEmpty_iff : rdEmpty s = true ↔ s.rbin = bin s.wq.last := by
  rw [rdEmpty, beq_iff_eq, h.rgray_eq]
  exact ⟨fun e => by rw [← e, bin_gray], fun e => by rw [e, gray_bin]⟩

theorem occR_eq_zero_iff : (occR s).toNat = 0 ↔ s.rbin = bin s.wq.last :=
  Params.dist_eq_zero_iff h.rbin_lt (h.bin_wq_lt s.wq.last_mem_toList)

theorem wrFull_iff : wrFull s = true ↔ (occW s).toNat = s.par.capacity := by
  rw [wrFull, beq_iff_eq]
  exact (Params.dist_eq_capacity_iff (h.bin_rq_lt s.rq.last_mem_toList) h.wbin_lt).symm

/-! ### The writes of the edges -/

/-- R131: PUSH moves the write pointer on; not being full, `rq` leaves room for it. -/
theorem pushByte_kept (hf : wrFull s = false) (b : Byte) : FifoClauses (pushByte b s) := by
  have hoccW : (occW s).toNat + 1 < s.par.depth := by
    have hne : (occW s).toNat ≠ s.par.capacity := fun e => by rw [h.wrFull_iff.2 e] at hf; cases hf
    have hlt : (occW s).toNat < s.par.depth := s.par.dist_lt_depth _ _
    unfold Params.capacity at hne
    omega
  have hinUse : ∀ g ∈ s.rq.toList, seenInUse (pushByte b s) g = seenInUse s g + 1 := fun g hg => by
    have hle := h.seenInUse_le_occW hg
    have hdist := Params.dist_inc_right (h.bin_rq_lt hg) h.wbin_lt
    simp only [seenInUse, pushByte_par, pushByte_wbin] at hle ⊢
    split at hdist <;> omega
  have hocc : (occ (pushByte b s)).toNat = (occ s).toNat + 1 := by
    have hle := (h.occ_le_seenInUse s.rq.last_mem_toList).trans (h.seenInUse_le_occW s.rq.last_mem_toList)
    have hdist := Params.dist_inc_right h.rbin_lt h.wbin_lt
    simp only [occ, pushByte_par, pushByte_wbin, pushByte_rbin] at hle ⊢
    split at hdist <;> omega
  refine { h with
    wbin_lt := ?wbin_lt
    wgray_eq := rfl
    wq_older := ?wq_older
    rq_older := ?rq_older
    wgPrev_one_old := ?wgPrev_one_old
    rgPrev_one_old := ?rgPrev_one_old }
  case wbin_lt => exact Params.inc_lt_depth h.wbin_lt
  case wq_older =>
    refine List.pairwise_cons.2 ⟨fun n hn => ?_, (List.pairwise_cons.1 h.wq_older).2⟩
    have : (occ s).toNat ≥ n := (List.pairwise_cons.1 h.wq_older).1 n hn
    omega
  case rq_older => exact pairwise_cons_map_of_forall (k := (· + 1)) h.rq_older hocc hinUse fun _ _ => Nat.succ_le_succ
  case wgPrev_one_old =>
    refine fun _ => ⟨?_, h.wgray_lt, fun g hg => ?_⟩
    · rw [pushByte_par, pushByte_wgPrev, pushByte_wbin, h.wgray_eq, bin_gray]
    · rw [hocc]
      exact Nat.lt_succ_of_le (h.seenAhead_le_occ hg)
  case rgPrev_one_old =>
    intro hc
    obtain ⟨hinc, hlt, habove⟩ := h.rgPrev_one_old hc
    refine ⟨hinc, hlt, fun g hg => ?_⟩
    rw [hocc, hinUse g hg]
    exact Nat.succ_lt_succ (habove g hg)

/-- R135: POP moves the read pointer on; not being empty, `wq` shows an entry to take. -/
theorem advanceRead_kept (he : rdEmpty s = false) : FifoClauses (advanceRead s) := by
  have hoccR : 0 < (occR s).toNat := by
    refine Nat.pos_of_ne_zero fun e => ?_
    rw [h.rdEmpty_iff.2 (h.occR_eq_zero_iff.1 e)] at he
    cases he
  have hahead : ∀ g ∈ s.wq.toList, seenAhead s g = seenAhead (advanceRead s) g + 1 := fun g hg => by
    have hle := h.occR_le_seenAhead hg
    have hdist := Params.dist_eq_dist_inc_left h.rbin_lt (h.bin_wq_lt hg)
    simp only [seenAhead, advanceRead_par, advanceRead_rbin] at hle ⊢
    split at hdist <;> omega
  have hocc : (occ s).toNat = (occ (advanceRead s)).toNat + 1 := by
    have hle := (h.occR_le_seenAhead s.wq.last_mem_toList).trans (h.seenAhead_le_occ s.wq.last_mem_toList)
    have hdist := Params.dist_eq_dist_inc_left h.rbin_lt h.wbin_lt
    simp only [occ, advanceRead_par, advanceRead_wbin, advanceRead_rbin] at hle ⊢
    split at hdist <;> omega
  refine { h with
    rbin_lt := ?rbin_lt
    rgray_eq := rfl
    wq_older := ?wq_older
    rq_older := ?rq_older
    wgPrev_one_old := ?wgPrev_one_old
    rgPrev_one_old := ?rgPrev_one_old }
  case rbin_lt => exact Params.inc_lt_depth h.rbin_lt
  case wq_older =>
    refine pairwise_cons_map_of_forall (k := (· - 1)) h.wq_older (by omega) (fun g hg => ?_)
      fun _ _ hle => Nat.sub_le_sub_right hle 1
    have := hahead g hg
    omega
  case rq_older =>
    refine List.pairwise_cons.2 ⟨fun n hn => ?_, (List.pairwise_cons.1 h.rq_older).2⟩
    have : (occ s).toNat ≤ n := (List.pairwise_cons.1 h.rq_older).1 n hn
    omega
  case wgPrev_one_old =>
    intro hc
    obtain ⟨hinc, hlt, hbelow⟩ := h.wgPrev_one_old hc
    refine ⟨hinc, hlt, fun g hg => ?_⟩
    have := hahead g hg
    have := hbelow g hg
    omega
  case rgPrev_one_old =>
    refine fun _ => ⟨?_, h.rgray_lt, fun g hg => ?_⟩
    · rw [advanceRead_par, advanceRead_rgPrev, advanceRead_rbin, h.rgray_eq, bin_gray]
    · have : (occ s).toNat ≤ seenInUse (advanceRead s) g := h.occ_le_seenInUse hg
      omega

/-- R136: the W edge's shift, for every draw. -/
theorem finishW_kept : FifoClauses (finishW s) := by
  unfold finishW
  split
  · next d rest _ =>
    obtain ⟨hlt, hocc, hfirst⟩ := h.rsample_between d
    refine { h with
      rq_length := by rw [Sync.length_shift]; exact h.rq_length
      rq_lt := fun x hx => ?_
      rq_older := Sync.pairwise_shift h.rq_older hocc hfirst
      rgPrev_one_old := nofun }
    rcases Sync.mem_toList_shift hx with rfl | hx
    · exact hlt
    · exact h.rq_lt x hx
  · exact h

/-- R137: the R edge's shift, for every draw. -/
theorem finishR_kept : FifoClauses (finishR s) := by
  unfold finishR
  split
  · next d rest _ =>
    obtain ⟨hlt, hocc, hfirst⟩ := h.wsample_between d
    refine { h with
      wq_length := by rw [Sync.length_shift]; exact h.wq_length
      wq_lt := fun x hx => ?_
      wq_older := Sync.pairwise_shift h.wq_older hocc hfirst
      wgPrev_one_old := nofun }
    rcases Sync.mem_toList_shift hx with rfl | hx
    · exact hlt
    · exact h.wq_lt x hx
  · exact h

end

end FifoClauses

/-! ### Reset -/

theorem Sync.toList_zero (p : Params) : (Sync.zero p).toList = List.replicate p.syncStages 0 :=
  List.replicate_succ'.symm

/-- R45: at reset every pointer and every flip-flop is 0. -/
theorem fifoClauses_resetOf (p : Params) : FifoClauses (State.resetOf p) := by
  have hpos : 0 < p.depth := Nat.two_pow_pos _
  have hgray : (0 : Ptr) = gray 0 := by decide
  have hdist : (p.dist 0 0).toNat = 0 := Params.dist_self hpos
  have hflops : ∀ g ∈ (Sync.zero p).toList, g.toNat < p.depth := fun g hg => by
    rw [Sync.toList_zero] at hg
    rw [List.eq_of_mem_replicate hg]
    exact hpos
  have hahead : seenAhead (State.resetOf p) 0 = 0 := hdist
  have hinUse : seenInUse (State.resetOf p) 0 = 0 := hdist
  have hocc : (occ (State.resetOf p)).toNat = 0 := hdist
  exact {
    wbin_lt := hpos
    rbin_lt := hpos
    wgray_eq := hgray
    rgray_eq := hgray
    wq_length := by simp [State.resetOf, Sync.zero, Params.syncStages]
    rq_length := by simp [State.resetOf, Sync.zero, Params.syncStages]
    wq_lt := hflops
    rq_lt := hflops
    wq_older := by
      change List.Pairwise _ (_ :: (Sync.zero p).toList.map _)
      rw [Sync.toList_zero, List.map_replicate, hahead, hocc, ← List.replicate_succ, List.pairwise_replicate]
      exact .inr (Nat.le_refl 0)
    rq_older := by
      change List.Pairwise _ (_ :: (Sync.zero p).toList.map _)
      rw [Sync.toList_zero, List.map_replicate, hinUse, hocc, ← List.replicate_succ, List.pairwise_replicate]
      exact .inr (Nat.le_refl 0)
    wgPrev_one_old := nofun
    rgPrev_one_old := nofun }

/-! ### Every step -/

section
variable {s t : State}

theorem FifoClauses.wEdge_kept (h : FifoClauses s) (ht : wEdge s = .next t) : FifoClauses t := by
  rcases wEdge_next ht with ⟨-, rfl⟩ | ⟨-, hf, -, rfl⟩ | ⟨-, rfl⟩
  case inl => exact { h with rgPrev_one_old := nofun }
  case inr.inl => exact (h.pushByte_kept hf _).finishW_kept
  case inr.inr => exact h.finishW_kept

/-- Of the rows of an R edge only POP writes the FIFO; every one ends in the shift. -/
theorem FifoClauses.rEdge_kept (h : FifoClauses s) (ht : rEdge s = .next t) : FifoClauses t := by
  rcases rEdge_next ht with ⟨-, rfl⟩ | ⟨-, -, -, rfl⟩ | ⟨-, -, -, rfl⟩ | ⟨-, -, rfl⟩ |
    ⟨b, c, -, -, -, he, -, -, rfl⟩ | ⟨-, rfl⟩
  · exact { h with wgPrev_one_old := nofun }
  · refine FifoClauses.finishR_kept ?_
    unfold advanceTx
    split <;> exact { h with }
  · exact FifoClauses.finishR_kept { h with }
  · refine FifoClauses.finishR_kept ?_
    rcases acceptRequest_cases (clearPulses s) with ⟨id, P, -, e⟩ | e <;> rw [e] <;> exact { h with }
  · obtain ⟨_, _, _, _, _, _, _, _, _, _, _, _, _, _, e⟩ := asmEffect_frame b (clearPulses s) c
    rw [e]
    refine (FifoClauses.advanceRead_kept ?_ ?_).finishR_kept
    · exact { h with }
    · exact he
  · exact FifoClauses.finishR_kept { h with }

end

/-- Settles O44: an edge keeps the invariant by its domain's pointer write and its shift, an assertion of reset gives the
reset pointers, and no other event touches the FIFO. -/
theorem fifoInvariantIsKept : Obligations.FifoInvariantIsKept := by
  intro s t h hst
  rw [fifoInv_iff] at h ⊢
  rcases step_next hst with ⟨-, rfl⟩ | ⟨-, -, -, ht⟩ | ⟨-, -, -, ht⟩ | ⟨_, _, _, -, rfl⟩ | ⟨_, _, -, rfl⟩ | ⟨_, _, -, rfl⟩ |
    ⟨_, -, rfl⟩ | ⟨_, -, rfl⟩
  case inr.inl => exact h.wEdge_kept ht
  case inr.inr.inl => exact h.rEdge_kept ht
  case inr.inr.inr.inr.inr.inr.inr => exact { fifoClauses_resetOf s.par with }
  all_goals exact { h with }

/-- Settles O15: the bounds are the ends of the two synchronisers' orders, each flag is its bound at its extreme. -/
theorem flagsAndOccupancyBounds : Obligations.FlagsAndOccupancyBounds := by
  intro s hs
  have h := fifoInv_iff.1 hs
  have hR := (h.occR_le_seenAhead s.wq.last_mem_toList).trans (h.seenAhead_le_occ s.wq.last_mem_toList)
  have hW := (h.occ_le_seenInUse s.rq.last_mem_toList).trans (h.seenInUse_le_occW s.rq.last_mem_toList)
  have hzero : occR s = 0 ↔ s.rbin = bin s.wq.last := by
    rw [← BitVec.toNat_inj]
    exact h.occR_eq_zero_iff
  exact ⟨hR, hW, Nat.le_sub_one_of_lt (s.par.dist_lt_depth _ _), h.rdEmpty_iff, h.rdEmpty_iff.trans hzero.symm, h.wrFull_iff⟩

end Sys2Proof.Machine

/-! PROOFS. The registers the read side owns (R32 to R38): which steps can write them, the assembler's invariant (O47), the
transmitter's invariant (O48), the configuration latch (O53). -/
namespace Sys2Proof.Machine

open Sys2Proof

/-! ### Which steps can write the read side's registers -/

/-- The assembler, the configurator, the transmitter and the parameters hold in `t` what they hold in `s`. -/
structure SameReadSide (s t : State) : Prop where
  par : t.par = s.par
  faIn : t.faIn = s.faIn
  faPos : t.faPos = s.faPos
  faBuf : t.faBuf = s.faBuf
  cfgQ : t.cfgQ = s.cfgQ
  stage : t.stage = s.stage
  txActive : t.txActive = s.txActive
  txBuf : t.txBuf = s.txBuf
  txLen : t.txLen = s.txLen
  txIdx : t.txIdx = s.txIdx

theorem sameReadSide_finishW (s : State) : SameReadSide s (finishW s) := by constructor <;> simp

theorem sameReadSide_finishR (s : State) : SameReadSide s (finishR s) := by constructor <;> simp

theorem wEdge_sameReadSide {s t : State} (h : wEdge s = .next t) : SameReadSide s t := by
  rcases wEdge_next h with ⟨-, rfl⟩ | ⟨-, -, -, rfl⟩ | ⟨-, rfl⟩
  · constructor <;> rfl
  · exact { sameReadSide_finishW (pushByte s.ports.wrData s) with }
  · exact sameReadSide_finishW s

/-- R80: only an `rclk` edge and an assertion of reset write a register of the read side. -/
theorem step_readSide {s t : State} (h : step s = .next t) :
    SameReadSide s t ∨ rEdge s = .next t ∨
    ∃ rest, s.stimulus = .reset false :: rest ∧ t = { assertReset s with stimulus := rest } := by
  rcases step_next h with ⟨-, rfl⟩ | ⟨-, -, -, ht⟩ | ⟨-, -, -, ht⟩ | ⟨_, _, _, -, rfl⟩ | ⟨_, _, -, rfl⟩ | ⟨_, _, -, rfl⟩ |
    ⟨_, -, rfl⟩ | ⟨rest, hr, ht⟩
  case inr.inl => exact .inl (wEdge_sameReadSide ht)
  case inr.inr.inl => exact .inr (.inl ht)
  case inr.inr.inr.inr.inr.inr.inr => exact .inr (.inr ⟨rest, hr, ht⟩)
  all_goals exact .inl (by constructor <;> rfl)

/-! ### The configuration latch -/

/-- R252: of an R edge's rows only START writes the latch; none writes the parameters. -/
theorem rEdge_config {s t : State} (h : rEdge s = .next t) :
    t.par = s.par ∧ (t.cfgQ = s.cfgQ ∨ rRow s = some .start ∧ t.cfgQ = s.ports.host.cfg) := by
  rcases rEdge_next h with ⟨-, rfl⟩ | ⟨-, -, -, rfl⟩ | ⟨hrow, -, -, rfl⟩ | ⟨-, -, rfl⟩ |
    ⟨b, c, -, -, -, -, -, -, rfl⟩ | ⟨-, rfl⟩
  · exact ⟨rfl, .inl rfl⟩
  · rw [finishR_par, finishR_cfgQ, advanceTx]
    split <;> exact ⟨rfl, .inl rfl⟩
  · rw [finishR_par, finishR_cfgQ]
    exact ⟨rfl, .inr ⟨hrow, rfl⟩⟩
  · rw [finishR_par, finishR_cfgQ]
    rcases acceptRequest_cases (clearPulses s) with ⟨id, P, -, e⟩ | e <;> rw [e] <;> exact ⟨rfl, .inl rfl⟩
  · obtain ⟨_, _, _, _, _, _, _, _, _, _, _, _, _, _, e⟩ := asmEffect_frame b (clearPulses s) c
    rw [finishR_par, finishR_cfgQ, e]
    exact ⟨rfl, .inl rfl⟩
  · rw [finishR_par, finishR_cfgQ]
    exact ⟨rfl, .inl rfl⟩

/-- Settles O53: the latch changes only at START and at reset; reset keeps the parameters it is applied to. -/
theorem configurationIsLatchedOnce : Obligations.ConfigurationIsLatchedOnce := by
  intro s t h
  rcases step_readSide h with hsame | hr | ⟨rest, hreset, rfl⟩
  · exact ⟨hsame.par, fun hne => absurd hsame.cfgQ hne⟩
  · obtain ⟨hpar, hcfg⟩ := rEdge_config hr
    exact ⟨hpar, fun hne => .inl (hcfg.resolve_left hne)⟩
  · exact ⟨rfl, fun _ => .inr ⟨rest, hreset, rfl⟩⟩

/-! ### The assembler -/

/-- What `AssemblerInv` says inside a frame, of the position and the buffer (`assemblerInv_iff`). -/
def InFrame (n : Nat) (buf : Vector Byte 21) : Prop :=
  1 ≤ n ∧ n ≤ MAX_PAYLOAD + 3 ∧ buf[0] = SYNC ∧ (2 ≤ n → buf[1].toNat ≤ MAX_PAYLOAD) ∧
  (3 ≤ n → n ≤ buf[1].toNat + 3) ∧ ∀ i, 1 ≤ i → i < n → buf[i]? ≠ some SYNC

theorem assemblerInv_iff {s : State} :
    AssemblerInv s ↔ (s.faIn = false → s.faPos = 0) ∧ (s.faIn = true → InFrame s.faPos.toNat s.faBuf) := Iff.rfl

theorem assemblerInv_congr {s t : State} (hin : t.faIn = s.faIn) (hpos : t.faPos = s.faPos) (hbuf : t.faBuf = s.faBuf) :
    AssemblerInv t ↔ AssemblerInv s := by
  rw [assemblerInv_iff, assemblerInv_iff, hin, hpos, hbuf]

/-- R162, R163: a sync starts a frame. -/
theorem inFrame_sync (buf : Vector Byte 21) : InFrame 1 (buf.setIfInBounds 0 SYNC) := by
  refine ⟨le_rfl, by decide, by simp, fun h => absurd h (by decide), fun h => absurd h (by decide), fun i h1 h2 => ?_⟩
  omega

/-- R164, R166, R167: a byte that is no sync, stored at the position, carries the frame on. -/
theorem InFrame.store {n : Nat} {buf : Vector Byte 21} {b : Byte} (h : InFrame n buf) (hb : b ≠ SYNC)
    (hlength : n = 1 → b.toNat ≤ MAX_PAYLOAD) (hroom : 3 ≤ n → n < buf[1].toNat + 3) :
    InFrame (n + 1) (buf.setIfInBounds n b) := by
  obtain ⟨hpos, hmax, hsync, hlegal, -, hnosync⟩ := h
  have h0 : (buf.setIfInBounds n b)[0] = buf[0] := by rw [Vector.getElem_setIfInBounds, if_neg (by omega)]
  have h1 : (buf.setIfInBounds n b)[1] = if n = 1 then b else buf[1] := Vector.getElem_setIfInBounds ..
  refine ⟨by omega, ?_, h0.trans hsync, fun _ => ?_, fun hn => ?_, fun i hi hin => ?_⟩
  · unfold MAX_PAYLOAD at *
    omega
  · rw [h1]
    split
    · exact hlength ‹_›
    · exact hlegal (by omega)
  · rw [h1, if_neg (by omega)]
    omega
  · rw [Vector.getElem?_setIfInBounds]
    split
    · split
      · simpa using hb
      · simp
    · exact hnosync i hi (by omega)

/-- Inside a frame the assembler stores a byte at its position and counts it. -/
theorem assemblerInv_of_store {s t : State} {b : Byte} (hframe : s.faIn = true → InFrame s.faPos.toNat s.faBuf)
    (hin : s.faIn = true) (hb : b ≠ SYNC) (hlength : s.faPos.toNat = 1 → b.toNat ≤ MAX_PAYLOAD)
    (hroom : 3 ≤ s.faPos.toNat → s.faPos.toNat < s.faBuf[1].toNat + 3) (ht : t.faIn = true)
    (hpos : t.faPos = s.faPos + 1) (hbuf : t.faBuf = s.faBuf.setIfInBounds s.faPos.toNat b) : AssemblerInv t := by
  have hcarry : t.faPos.toNat = s.faPos.toNat + 1 := by
    have : s.faPos.toNat ≤ MAX_PAYLOAD + 3 := (hframe hin).2.1
    rw [hpos, BitVec.toNat_add]
    exact Nat.mod_eq_of_lt (show s.faPos.toNat + 1 < 32 by unfold MAX_PAYLOAD at this; omega)
  refine assemblerInv_iff.2 ⟨fun hout => ?_, fun _ => ?_⟩
  · rw [ht] at hout
    cases hout
  · rw [hcarry, hbuf]
    exact (hframe hin).store hb hlength hroom

/-- A byte the assembler takes keeps its invariant, in each of the cases of R160. -/
theorem assemblerInv_asmEffect {s : State} {b : Byte} {c : AsmCase} (h : AssemblerInv s)
    (hc : asmCase (asmSignals s) b = some c) : AssemblerInv (asmEffect b s c) := by
  rw [assemblerInv_iff] at h
  obtain ⟨hhunt, hframe⟩ := h
  rcases asmCase_cases hc with ⟨rfl, -⟩ | ⟨rfl, -⟩ | ⟨rfl, hin, -⟩ | ⟨rfl, hin, hb, hpos, hle⟩ |
    ⟨rfl, -⟩ | ⟨rfl, hin, hb, hpos⟩ | ⟨rfl, hin, hb, hlo, hhi, hroom⟩ | ⟨rfl, -⟩
  · exact ⟨hhunt, hframe⟩
  · exact ⟨nofun, fun _ => inFrame_sync s.faBuf⟩
  · exact ⟨fun hout => absurd (hin.symm.trans hout) nofun, fun _ => inFrame_sync s.faBuf⟩
  · replace hpos : s.faPos = 1 := hpos
    refine assemblerInv_of_store hframe hin hb (fun _ => hle) (fun h3 => ?_) hin ?_ ?_
    · simp [hpos] at h3
    · rw [hpos]; rfl
    · rw [hpos]; rfl
  · exact ⟨fun _ => rfl, nofun⟩
  · replace hpos : s.faPos = 2 := hpos
    refine assemblerInv_of_store hframe hin hb (fun h1 => ?_) (fun h3 => ?_) hin ?_ ?_
    · simp [hpos] at h1
    · simp [hpos] at h3
    · rw [hpos]; rfl
    · rw [hpos]; rfl
  · refine assemblerInv_of_store hframe hin hb (fun h1 => ?_) (fun _ => hroom) hin rfl rfl
    replace hlo : 3 ≤ s.faPos.toNat := hlo
    omega
  · rw [asmEffect, onChecksumByte, dispatch_eq]
    obtain ⟨_, _, _, _, _, _, _, _, _, _, _, e⟩ := frameEffect_frame (candidate b s)
      { storeFaBuf s.faPos.toNat b s with faIn := false, faPos := 0 }
      (frameClass (frameSignals { storeFaBuf s.faPos.toNat b s with faIn := false, faPos := 0 }) (candidate b s))
    rw [e]
    exact ⟨fun _ => rfl, nofun⟩

/-- Of the rows of an R edge only POP, by its assembler row, writes the assembler's registers. -/
theorem assemblerInv_rEdge {s t : State} (h : AssemblerInv s) (ht : rEdge s = .next t) : AssemblerInv t := by
  have hfinish (u : State) (hu : AssemblerInv u) : AssemblerInv (finishR u) :=
    (assemblerInv_congr (finishR_faIn u) (finishR_faPos u) (finishR_faBuf u)).2 hu
  have hclear : AssemblerInv (clearPulses s) := h
  rcases rEdge_next ht with ⟨-, rfl⟩ | ⟨-, -, -, rfl⟩ | ⟨-, -, -, rfl⟩ | ⟨-, -, rfl⟩ |
    ⟨b, c, -, -, -, -, -, hc, rfl⟩ | ⟨-, rfl⟩
  · exact h
  · refine hfinish _ ?_
    unfold advanceTx
    split <;> exact h
  · exact hfinish _ h
  · refine hfinish _ ?_
    rcases acceptRequest_cases (clearPulses s) with ⟨id, P, -, e⟩ | e <;> rw [e] <;> exact h
  · exact hfinish _ (assemblerInv_asmEffect hclear hc)
  · exact hfinish _ h

/-- Settles O47, by the case of the popped byte. -/
theorem assemblerInvariantIsKept : Obligations.AssemblerInvariantIsKept := by
  intro s t h hst
  rcases step_readSide hst with hsame | hr | ⟨_, -, rfl⟩
  · exact (assemblerInv_congr hsame.faIn hsame.faPos hsame.faBuf).2 h
  · exact assemblerInv_rEdge h hr
  · exact ⟨fun _ => rfl, nofun⟩

/-! ### Loaded frames -/

theorem xorAll_concat (T : List Byte) (b : Byte) : xorAll (T ++ [b]) = xorAll T ^^^ b := by
  simp [xorAll]

/-- R96, R191: the checksum makes the XOR of the whole frame 0. -/
theorem xorAll_build (id : Byte) (P : List Byte) : xorAll (build id P) = 0 := by
  rw [build, xorAll_concat, BitVec.xor_self]
  rfl

theorem length_build (id : Byte) (P : List Byte) : (build id P).length = P.length + 4 := by
  simp [build]

/-- R195: a frame that fits stands at the front of the buffer. -/
theorem take_fillTxBuf {T : List Byte} {buf : Vector Byte 13} (h : T.length ≤ 13) :
    (fillTxBuf T buf).toList.take T.length = T := by
  refine List.ext_getElem (by simpa using h) fun i _ hi => ?_
  simp [fillTxBuf, hi, frameByte]

/-- R191, R195: loading a command's frame outside Idle meets the transmitter's invariant. -/
theorem transmitInv_loadTx {s : State} {id : Byte} {P : List Byte} (hP : P.length ∈ [1, 2, 3, 5, 9]) (hs : s.stage ≠ .idle) :
    TransmitInv (loadTx id P s) := by
  simp only [List.mem_cons, List.not_mem_nil, or_false] at hP
  have hlen : (loadTx id P s).txLen.toNat = P.length + 4 := Nat.mod_eq_of_lt (by omega)
  have hcount : (loadTx id P s).txBuf[1].toNat = P.length := by
    have : (loadTx id P s).txBuf[1] = BitVec.ofNat 8 P.length := by simp [fillTxBuf, build, frameByte]
    rw [this]
    exact Nat.mod_eq_of_lt (by omega)
  refine ⟨fun _ => ⟨?_, ?_, ?_, ?_, ?_⟩, nofun, fun hidle => absurd hidle hs⟩
  · rw [BitVec.lt_def, hlen, loadTx_txIdx]
    exact Nat.succ_pos _
  · rw [hlen]
    simp only [List.mem_cons, List.not_mem_nil, or_false]
    omega
  · simp [fillTxBuf, build, frameByte]
  · rw [hlen, hcount]
  · rw [hlen, loadTx_txBuf, ← length_build id P, take_fillTxBuf (by rw [length_build]; omega)]
    exact xorAll_build id P

/-! ### The transmitter -/

theorem transmitInv_congr {s t : State} (hactive : t.txActive = s.txActive) (hbuf : t.txBuf = s.txBuf)
    (hlen : t.txLen = s.txLen) (hidx : t.txIdx = s.txIdx) (hstage : t.stage = s.stage) : TransmitInv t ↔ TransmitInv s := by
  rw [TransmitInv, TransmitInv, hactive, hbuf, hlen, hidx, hstage]

/-- R192: a byte handed over leaves the index inside the frame, or ends the transmission. -/
theorem transmitInv_advanceTx {s : State} (h : TransmitInv s) (hactive : s.txActive = true) : TransmitInv (advanceTx s) := by
  obtain ⟨hsend, -, hidle⟩ := h
  obtain ⟨hidx, hframe⟩ := hsend hactive
  by_cases hlast : s.txIdx + 1 = s.txLen
  · rw [advanceTx_last hlast]
    exact ⟨nofun, fun _ => rfl, fun _ => rfl⟩
  · rw [advanceTx_more hlast]
    refine ⟨fun _ => ⟨?_, hframe⟩, fun hoff => ?_, hidle⟩
    · show s.txIdx + 1 < s.txLen
      bv_omega
    · rw [show s.txActive = false from hoff] at hactive
      cases hactive

/-- R255, R256: an acknowledgment loads the next stage's command, or ends the configuration. -/
theorem transmitInv_ackStage {s : State} (h : TransmitInv s) : TransmitInv (ackStage s) := by
  have hconfigured : TransmitInv (setStage .configured s) := ⟨h.1, h.2.1, nofun⟩
  unfold ackStage
  cases s.stage
  case idle => exact h
  case openChannel =>
    unfold ackOpenChannel
    cases s.cfgQ.role
    case slave => exact transmitInv_loadTx (by simp [dataPayload, allOnes]) nofun
    case master => exact hconfigured
  case addressAnnounce => exact hconfigured
  case configured => exact h
  all_goals exact transmitInv_loadTx (by simp) nofun

/-- Of the frame rows only the acknowledgment and the restart load a frame (R224, R226). -/
theorem transmitInv_frameEffect {s : State} (h : TransmitInv s) (F : List Byte) (c : FrameClass) :
    TransmitInv (frameEffect F s c) := by
  cases c
  case eventNoErrorAck => exact transmitInv_ackStage h
  case eventSearchTimeout => exact transmitInv_loadTx (by simp) nofun
  all_goals exact h

theorem transmitInv_asmEffect {s : State} (h : TransmitInv s) (b : Byte) (c : AsmCase) : TransmitInv (asmEffect b s c) := by
  cases c
  case checksumByte =>
    rw [asmEffect, onChecksumByte, dispatch_eq]
    refine transmitInv_frameEffect ?_ _ _
    exact h
  all_goals exact h

/-- Every row of an R edge keeps the transmitter's invariant; START and an accepted request load outside Idle. -/
theorem transmitInv_rEdge {s t : State} (h : TransmitInv s) (ht : rEdge s = .next t) : TransmitInv t := by
  have hfinish (u : State) (hu : TransmitInv u) : TransmitInv (finishR u) :=
    (transmitInv_congr (finishR_txActive u) (finishR_txBuf u) (finishR_txLen u) (finishR_txIdx u) (finishR_stage u)).2 hu
  have hclear : TransmitInv (clearPulses s) := h
  rcases rEdge_next ht with ⟨-, rfl⟩ | ⟨-, hactive, -, rfl⟩ | ⟨-, -, -, rfl⟩ | ⟨-, hready, rfl⟩ |
    ⟨b, c, -, -, -, -, -, -, rfl⟩ | ⟨-, rfl⟩
  · exact h
  · exact hfinish _ (transmitInv_advanceTx hclear hactive)
  · exact hfinish _ (transmitInv_loadTx (by simp) nofun)
  · refine hfinish _ ?_
    rcases acceptRequest_cases (clearPulses s) with ⟨id, P, hP, e⟩ | e <;> rw [e]
    · refine transmitInv_loadTx hP fun hidle => ?_
      simp [hostReqReady, show s.stage = .idle from hidle] at hready
    · exact h
  · exact hfinish _ (transmitInv_asmEffect hclear b c)
  · exact hfinish _ h

/-- Settles O48: a frame is loaded whole and outside Idle, TX_BYTE stays inside it, and nothing else writes it. -/
theorem transmitInvariantIsKept : Obligations.TransmitInvariantIsKept := by
  intro s t h hst
  rcases step_readSide hst with hsame | hr | ⟨_, -, rfl⟩
  · exact (transmitInv_congr hsame.txActive hsame.txBuf hsame.txLen hsame.txIdx hsame.stage).2 h
  · exact transmitInv_rEdge h hr
  · exact ⟨nofun, fun _ => rfl, fun _ => rfl⟩

end Sys2Proof.Machine

/-! PROOFS. The output ports (O38) and the reset state under the invariants (O43). -/
namespace Sys2Proof.Machine

open Sys2Proof

/-! ### The output ports -/

/-- The packing of `out_frame`, over any list of bytes (R23, R73). -/
def packBytes (l : List Byte) : BitVec 168 := l.foldr (fun b acc => (acc <<< 8) ||| b.zeroExtend 168) 0

theorem outFramePort_eq (s : State) : outFramePort s = packBytes s.outFrame.toList := rfl

/-- R73: byte `i` of the list stands at bits `8i+7:8i`. -/
theorem getLsbD_packBytes {l : List Byte} {i j : Nat} (hi : i < l.length) (hj : j < 8) (hfits : 8 * i + j < 168) :
    (packBytes l).getLsbD (8 * i + j) = l[i].getLsbD j := by
  induction l generalizing i with
  | nil => exact absurd hi (Nat.not_lt_zero i)
  | cons b bs ih =>
    rw [show packBytes (b :: bs) = (packBytes bs <<< 8) ||| b.zeroExtend 168 from rfl, BitVec.getLsbD_or,
      BitVec.getLsbD_shiftLeft]
    cases i with
    | zero => simp [hj, show j < 168 by omega]
    | succ k =>
      have hhigh : 8 * (k + 1) + j - 8 = 8 * k + j := by omega
      have hpast : b.getLsbD (8 * (k + 1) + j) = false := BitVec.getLsbD_of_ge b _ (by omega)
      have hrest := ih (i := k) (Nat.lt_of_succ_lt_succ hi) (by omega)
      simp [hhigh, hpast, hfits, hrest, show ¬ 8 * (k + 1) + j < 8 by omega]

theorem extractLsb'_outFramePort (s : State) {i : Nat} (h : i < 21) :
    (outFramePort s).extractLsb' (8 * i) 8 = s.outFrame[i] := by
  refine BitVec.eq_of_getLsbD_eq fun j hj => ?_
  rw [BitVec.getLsbD_extractLsb', outFramePort_eq, getLsbD_packBytes (by simpa using h) hj (by omega)]
  simp [hj]

/-- R42: `tx_data` while transmitting, the index being inside the buffer. -/
theorem txData_of_active {s : State} (h : s.txActive = true) (hidx : s.txIdx.toNat < 13) :
    txData s = some (s.txBuf.toList.getD s.txIdx.toNat 0) := by
  simp [txData, h, hidx]

/-- Settles O38: all but the packing of `out_frame` and `tx_data` is the ports' definition. -/
theorem outputPortsCarryTheRegisters : Obligations.OutputPortsCarryTheRegisters := by
  refine ⟨fun s => ⟨rfl, fun h => ?_, txData_of_active, rfl, rfl, rfl, rfl, rfl, ?_, rfl, rfl⟩, by decide⟩
  · exact if_neg (by simp [h])
  · exact fun _ => extractLsb'_outFramePort s

/-! ### The reset state -/

theorem outputInv_resetOf (p : Params) : OutputInv (State.resetOf p) := by
  refine ⟨rfl, rfl, rfl, nofun, nofun, nofun, Nat.zero_le _, fun i _ hi => ?_⟩
  exact (Vector.getElem?_eq_getElem hi).trans (by simp [State.resetOf])

/-- Settles O43: the unspecified arrays are read by no clause but the storage's form, which is given. -/
theorem resetMeetsTheInvariants : Obligations.ResetMeetsTheInvariants := by
  rintro p m fb tb s hm rfl
  refine ⟨fifoInv_iff.2 { fifoClauses_resetOf p with }, hm, ⟨fun _ => rfl, nofun⟩, ⟨nofun, fun _ => rfl, fun _ => rfl⟩,
    outputInv_resetOf p, ?_⟩
  exact ⟨fun _ => rfl, fun _ => rfl, nofun, nofun, nofun⟩

end Sys2Proof.Machine

/-! PROOFS. A clock edge read forward (R280, R288): which edge runs a row, and the next state of each row selected. `wEdge_next`
and `rEdge_next` read it backward. -/
namespace Sys2Proof.Machine

open Sys2Proof

/-! ### The step on a clock edge -/

section
variable {s : State} {d : Draw} {rest : List Stimulus} {i : Instr}

theorem step_of_wclk (h : s.stimulus = .wclk d :: rest) : step s = wEdge s := by
  simp only [step, h]

theorem step_of_rclk (h : s.stimulus = .rclk d :: rest) : step s = rEdge s := by
  simp only [step, h]

/-- Only a `wclk` edge runs a W row (R288). -/
theorem exists_wclk_of_wRow (h : wRow s = some i) : ∃ d rest, s.stimulus = .wclk d :: rest := by
  unfold wRow wStep at h
  split at h
  · split at h
    · exact ⟨_, _, ‹_›⟩
    · contradiction
  · cases h

/-- Only an `rclk` edge runs an R row (R280). -/
theorem exists_rclk_of_rRow (h : rRow s = some i) : ∃ d rest, s.stimulus = .rclk d :: rest := by
  unfold rRow rStep at h
  split at h
  · split at h
    · exact ⟨_, _, ‹_›⟩
    · contradiction
  · cases h

theorem step_of_wRow (h : wRow s = some i) : step s = wEdge s := by
  obtain ⟨d, rest, hs⟩ := exists_wclk_of_wRow h
  exact step_of_wclk hs

theorem step_of_rRow (h : rRow s = some i) : step s = rEdge s := by
  obtain ⟨d, rest, hs⟩ := exists_rclk_of_rRow h
  exact step_of_rclk hs

end

/-! ### The next state of each row -/

section
variable {s : State}

theorem wEdge_of_no_row (h : wRow s = none) : wEdge s = .next (wEdgeInReset s) := by
  simp only [wEdge, h]

theorem wEdge_of_push (h : wRow s = some .push) (hlt : s.wbin.toNat < s.par.depth) :
    wEdge s = .next (finishW (pushByte s.ports.wrData s)) := by
  simp only [wEdge, h, exec, execPush, wSelects_of_wRow h, whenSelected_true, if_pos hlt]

theorem wEdge_of_no_push (h : wRow s = some .pushDrop ∨ wRow s = some .wIdle) : wEdge s = .next (finishW s) := by
  rcases h with h | h
  · simp only [wEdge, h, exec, execPushDrop, wSelects_of_wRow h, whenSelected_true]
  · simp only [wEdge, h, exec, execWIdle, wSelects_of_wRow h, whenSelected_true]

theorem rEdge_of_no_row (h : rRow s = none) : rEdge s = .next (rEdgeInReset s) := by
  simp only [rEdge, h]

theorem rEdge_of_txByte (h : rRow s = some .txByte) (hlt : s.txIdx.toNat < TXB_SIZE) :
    rEdge s = .next (finishR (advanceTx (clearPulses s))) := by
  simp only [rEdge, h, exec, execTxByte, rSelects_of_rRow h, whenSelected_true, if_pos hlt]

theorem rEdge_of_start (h : rRow s = some .start) : rEdge s = .next (finishR (startBlock (clearPulses s))) := by
  simp only [rEdge, h, exec, execStart, rSelects_of_rRow h, whenSelected_true]

theorem rEdge_of_hostReq (h : rRow s = some .hostReq) : rEdge s = .next (finishR (acceptRequest (clearPulses s))) := by
  simp only [rEdge, h, exec, execHostReq, rSelects_of_rRow h, whenSelected_true]

theorem rEdge_of_pop {b : Byte} {c : AsmCase} (h : rRow s = some .pop) (hb : fifoRead s = .ok b)
    (hc : asmCase (asmSignals s) b = some c) :
    rEdge s = .next (finishR (advanceRead (asmEffect b (clearPulses s) c))) := by
  have hcase : asmCase (asmSignals (clearPulses s)) b = some c := hc
  simp only [rEdge, h, exec, execPop, rSelects_of_rRow h, whenSelected_true]
  exact popByte_next.2 ⟨b, _, hb, by rw [assemble_eq, hcase, Option.map_some], rfl⟩

/-- R145, R193, R260: the rows that write nothing of their own. -/
theorem rEdge_of_wait (h : rRow s = some .txStall ∨ rRow s = some .rIdleInIdle ∨ rRow s = some .rIdleNoRequest ∨
    rRow s = some .rIdleNotReady) : rEdge s = .next (finishR (clearPulses s)) := by
  rcases h with h | h | h | h
  · simp only [rEdge, h, exec, execTxStall, rSelects_of_rRow h, whenSelected_true]
  · simp only [rEdge, h, exec, execRIdleInIdle, rSelects_of_rRow h, whenSelected_true]
  · simp only [rEdge, h, exec, execRIdleNoRequest, rSelects_of_rRow h, whenSelected_true]
  · simp only [rEdge, h, exec, execRIdleNotReady, rSelects_of_rRow h, whenSelected_true]

end

end Sys2Proof.Machine

/-! PROOFS. What an edge writes of the other domain's state (R80): the rows of an R edge leave the write side and the
storage alone. O54, O46. -/
namespace Sys2Proof.Machine

open Sys2Proof

/-! ### What the rows of an R edge leave alone -/

/-- The W domain's registers, the storage, the ports, the parameters and the coming events are in `t` what they are in `s`. -/
structure SameWriteSide (s t : State) : Prop where
  par : t.par = s.par
  ports : t.ports = s.ports
  wRst : t.wRst = s.wRst
  wbin : t.wbin = s.wbin
  wgray : t.wgray = s.wgray
  rq : t.rq = s.rq
  mem : t.mem = s.mem
  wgPrev : t.wgPrev = s.wgPrev
  stimulus : t.stimulus = s.stimulus

theorem sameWriteSide_advanceTx (s : State) : SameWriteSide s (advanceTx s) ∧ (advanceTx s).rbin = s.rbin := by
  unfold advanceTx
  split <;> exact ⟨by constructor <;> rfl, rfl⟩

theorem sameWriteSide_acceptRequest (s : State) : SameWriteSide s (acceptRequest s) ∧ (acceptRequest s).rbin = s.rbin := by
  rcases acceptRequest_cases s with ⟨id, P, -, e⟩ | e <;> rw [e] <;> exact ⟨by constructor <;> rfl, rfl⟩

theorem sameWriteSide_asmEffect (b : Byte) (s : State) (c : AsmCase) :
    SameWriteSide s (asmEffect b s c) ∧ (asmEffect b s c).rbin = s.rbin := by
  obtain ⟨_, _, _, _, _, _, _, _, _, _, _, _, _, _, e⟩ := asmEffect_frame b s c
  rw [e]
  exact ⟨by constructor <;> rfl, rfl⟩

/-- R80: an R edge leaves the write side alone but for its shift, and of its rows only POP moves the read pointer. -/
theorem rEdge_writeSide {s t : State} (h : rEdge s = .next t) :
    (rRow s = none ∧ t = rEdgeInReset s) ∨
    ∃ u, t = finishR u ∧ SameWriteSide s u ∧
      ((rRow s ≠ some .pop ∧ u.rbin = s.rbin) ∨
        (rRow s = some .pop ∧ rdEmpty s = false ∧ (∃ b, fifoRead s = .ok b) ∧ u.rbin = s.par.inc s.rbin)) := by
  rcases rEdge_next h with hreset | ⟨hrow, -, -, rfl⟩ | ⟨hrow, -, -, rfl⟩ | ⟨hrow, -, rfl⟩ |
    ⟨b, c, hrow, -, -, he, hb, -, rfl⟩ | ⟨hrow, rfl⟩
  · exact .inl hreset
  · obtain ⟨hsame, hrbin⟩ := sameWriteSide_advanceTx (clearPulses s)
    exact .inr ⟨_, rfl, { hsame with }, .inl ⟨by simp [hrow], hrbin⟩⟩
  · exact .inr ⟨_, rfl, by constructor <;> rfl, .inl ⟨by simp [hrow], rfl⟩⟩
  · obtain ⟨hsame, hrbin⟩ := sameWriteSide_acceptRequest (clearPulses s)
    exact .inr ⟨_, rfl, { hsame with }, .inl ⟨by simp [hrow], hrbin⟩⟩
  · obtain ⟨hsame, hrbin⟩ := sameWriteSide_asmEffect b (clearPulses s) c
    exact .inr ⟨_, rfl, { hsame with }, .inr ⟨hrow, he, ⟨b, hb⟩, congrArg₂ Params.inc hsame.par hrbin⟩⟩
  · refine .inr ⟨_, rfl, by constructor <;> rfl, .inl ⟨fun hpop => ?_, rfl⟩⟩
    simp [hpop] at hrow

/-! ### The statements -/

/-- Settles O54: a W edge writes by PUSH and by its shift; an R edge's rows leave the write side alone, and its shift clears
the record. -/
theorem eachDomainWritesItsOwnState : Obligations.EachDomainWritesItsOwnState := by
  refine fun s t d rest ht => ⟨fun hs => ?wclk, fun hs => ?rclk⟩
  case wclk =>
    rw [step_of_wclk hs] at ht
    rcases wEdge_next ht with ⟨-, rfl⟩ | ⟨-, -, -, rfl⟩ | ⟨-, rfl⟩
    · rw [wEdgeInReset, hs, List.tail_cons]
    · rw [finishW_of_wclk (s := pushByte s.ports.wrData s) hs]
      rfl
    · rw [finishW_of_wclk hs]
  case rclk =>
    rw [step_of_rclk hs] at ht
    rcases rEdge_writeSide ht with ⟨-, rfl⟩ | ⟨u, rfl, hu, -⟩
    · rw [rEdgeInReset, hs, List.tail_cons]
      exact ⟨rfl, rfl, rfl, rfl, rfl, rfl, rfl, rfl, rfl, rfl⟩
    · rw [finishR_of_rclk (hu.stimulus.trans hs)]
      exact ⟨hu.par, hu.ports, hu.wRst, hu.wbin, hu.wgray, hu.rq, hu.mem, hu.wgPrev, rfl, rfl⟩

theorem memInv_congr {s t : State} (hpar : t.par = s.par) (hmem : t.mem = s.mem) : MemInv t ↔ MemInv s := by
  rw [MemInv, MemInv, hpar, hmem]

/-- Settles O46: only PUSH, inside the storage, and reset write it. -/
theorem storageFormIsKept : Obligations.StorageFormIsKept := by
  intro s t h hst
  rcases step_next hst with ⟨-, rfl⟩ | ⟨-, -, -, ht⟩ | ⟨-, -, -, ht⟩ | ⟨_, _, _, -, rfl⟩ | ⟨_, _, -, rfl⟩ | ⟨_, _, -, rfl⟩ |
    ⟨_, -, rfl⟩ | ⟨_, -, rfl⟩
  case inr.inl =>
    rcases wEdge_next ht with ⟨-, rfl⟩ | ⟨-, -, hlt, rfl⟩ | ⟨-, rfl⟩
    · exact h
    · rw [memInv_congr (finishW_par _) (finishW_mem _)]
      exact memWf_memWrite s.ports.wrData h hlt
    · exact (memInv_congr (finishW_par s) (finishW_mem s)).2 h
  case inr.inr.inl =>
    rcases rEdge_writeSide ht with ⟨-, rfl⟩ | ⟨u, rfl, hu, -⟩
    · exact h
    · exact (memInv_congr ((finishR_par u).trans hu.par) ((finishR_mem u).trans hu.mem)).2 h
  case inr.inr.inr.inr.inr.inr.inr => exact memWf_nil s.par
  all_goals exact h

end Sys2Proof.Machine

/-! PROOFS. The FIFO as a queue (R79, R140): what PUSH, POP and every other step do to `fifoContents`. O45. -/
namespace Sys2Proof

/-! ### The entries after the read pointer -/

section
variable {p : Params} {a b : Ptr} (ha : a.toNat < p.depth)
include ha

/-- Of the DEPTH entries from `a` on, the one at `b` is the one `dist a b` places after `a`. -/
theorem Params.add_mod_depth_eq_iff (hb : b.toNat < p.depth) {k : Nat} (hk : k < p.depth) :
    (a.toNat + k) % p.depth = b.toNat ↔ k = (p.dist a b).toNat := by
  have hmod : (a.toNat + k) % p.depth = if a.toNat + k < p.depth then a.toNat + k else a.toNat + k - p.depth := by
    split
    · exact Nat.mod_eq_of_lt ‹_›
    · rw [Nat.mod_eq_sub_mod (by omega), Nat.mod_eq_of_lt (by omega)]
  rw [hmod, Params.toNat_dist ha hb]
  split <;> split <;> omega

theorem Params.toNat_inc_eq_mod : (p.inc a).toNat = (a.toNat + 1) % p.depth := by
  rw [Params.toNat_inc ha]
  split
  · next h => rw [h, Nat.mod_self]
  · exact (Nat.mod_eq_of_lt (by omega)).symm

end

end Sys2Proof

namespace Sys2Proof.Machine

open Sys2Proof

/-! ### The contents -/

theorem fifoContents_congr {s t : State} (hpar : t.par = s.par) (hrbin : t.rbin = s.rbin) (hwbin : t.wbin = s.wbin)
    (hmem : t.mem = s.mem) : fifoContents t = fifoContents s := by
  have hentry : entryAt t = entryAt s := funext fun k => by rw [entryAt, entryAt, hpar, hrbin, hmem]
  rw [fifoContents, fifoContents, hentry, occ, occ, hpar, hrbin, hwbin]

theorem fifoContents_eq_nil {s : State} (h : (occ s).toNat = 0) : fifoContents s = [] := by
  rw [fifoContents, h, List.range_zero, List.map_nil]

namespace FifoClauses

section
variable {s : State} (h : FifoClauses s)
include h

/-- R131: the pointer PUSH replaces is the one R13 may still draw, one entry short of the new one. -/
theorem occ_pushByte (hf : wrFull s = false) (b : Byte) : (occ (pushByte b s)).toNat = (occ s).toNat + 1 := by
  have hone : seenAhead s s.wgray + 1 = (occ (pushByte b s)).toNat := (h.pushByte_kept hf b).seenAhead_wgPrev rfl
  rw [← hone, h.seenAhead_wgray]

/-- R135: the pointer POP replaces is the one R13 may still draw, one entry behind the new one. -/
theorem occ_advanceRead (he : rdEmpty s = false) : (occ s).toNat = (occ (advanceRead s)).toNat + 1 := by
  have hone : seenInUse s s.rgray = (occ (advanceRead s)).toNat + 1 := (h.advanceRead_kept he).seenInUse_rgPrev rfl
  rw [← hone, h.seenInUse_rgray]

/-- R131: the byte pushed is in the first entry not in use. -/
theorem entryAt_pushByte (b : Byte) {k : Nat} (hk : k < s.par.depth) :
    entryAt (pushByte b s) k = if k = (occ s).toNat then b else entryAt s k := by
  rw [entryAt, pushByte_mem, pushByte_rbin, pushByte_par, memRead_memWrite]
  exact if_congr (Params.add_mod_depth_eq_iff h.rbin_lt h.wbin_lt hk) rfl rfl

/-- R135: behind the entry popped the others keep their order. -/
theorem entryAt_advanceRead (k : Nat) : entryAt (advanceRead s) k = entryAt s (k + 1) := by
  rw [entryAt, entryAt, advanceRead_mem, advanceRead_rbin, advanceRead_par, Params.toNat_inc_eq_mod h.rbin_lt,
    Nat.mod_add_mod, Nat.add_right_comm, Nat.add_assoc]

theorem entryAt_zero : entryAt s 0 = memRead s.mem s.rbin.toNat := by
  rw [entryAt, Nat.add_zero, Nat.mod_eq_of_lt h.rbin_lt]

theorem fifoContents_pushByte (hf : wrFull s = false) (b : Byte) :
    fifoContents (pushByte b s) = fifoContents s ++ [b] := by
  have hocc : (occ s).toNat < s.par.depth := s.par.dist_lt_depth _ _
  rw [fifoContents, h.occ_pushByte hf, List.range_succ, List.map_append, List.map_singleton, h.entryAt_pushByte b hocc,
    if_pos rfl]
  refine congrArg (· ++ [b]) (List.map_congr_left fun k hk => ?_)
  have hlt : k < (occ s).toNat := List.mem_range.1 hk
  rw [h.entryAt_pushByte b (hlt.trans hocc), if_neg hlt.ne]

theorem fifoContents_advanceRead (he : rdEmpty s = false) :
    fifoContents s = memRead s.mem s.rbin.toNat :: fifoContents (advanceRead s) := by
  rw [fifoContents, h.occ_advanceRead he, List.range_succ_eq_map, List.map_cons, List.map_map, h.entryAt_zero]
  exact congrArg _ (List.map_congr_left fun k _ => (h.entryAt_advanceRead k).symm)

/-! ### The edges and reset -/

variable {t : State}

theorem fifoContents_of_push (hrow : wRow s = some .push) (ht : step s = .next t) :
    fifoContents t = fifoContents s ++ [s.ports.wrData] := by
  rw [step_of_wRow hrow] at ht
  rcases wEdge_next ht with ⟨hnone, -⟩ | ⟨-, hf, -, rfl⟩ | ⟨hother, -⟩
  · simp [hnone] at hrow
  · rw [fifoContents_congr (finishW_par _) (finishW_rbin _) (finishW_wbin _) (finishW_mem _), h.fifoContents_pushByte hf]
  · simp [hrow] at hother

theorem fifoContents_of_pop (hrow : rRow s = some .pop) (ht : step s = .next t) :
    ∃ b, fifoRead s = .ok b ∧ fifoContents s = b :: fifoContents t := by
  rw [step_of_rRow hrow] at ht
  rcases rEdge_writeSide ht with ⟨hnone, -⟩ | ⟨u, rfl, hu, ⟨hother, -⟩ | ⟨-, he, ⟨b, hb⟩, hrbin⟩⟩
  · simp [hnone] at hrow
  · exact absurd hrow hother
  · have hsame : fifoContents (finishR u) = fifoContents (advanceRead s) :=
      fifoContents_congr ((finishR_par u).trans hu.par) ((finishR_rbin u).trans hrbin) ((finishR_wbin u).trans hu.wbin)
        ((finishR_mem u).trans hu.mem)
    refine ⟨b, hb, ?_⟩
    rw [hsame, ← (fifoRead_ok.1 hb).2]
    exact h.fifoContents_advanceRead he

end

end FifoClauses

theorem fifoContents_assertReset (s : State) (rest : List Stimulus) :
    fifoContents { assertReset s with stimulus := rest } = [] :=
  fifoContents_eq_nil (Params.dist_self (a := 0) (Nat.two_pow_pos _))

/-- R79: the FIFO changes only by a PUSH, a POP and reset. -/
theorem fifoContents_of_other {s t : State} (hpush : wRow s ≠ some .push) (hpop : rRow s ≠ some .pop)
    (hreset : ∀ rest, s.stimulus ≠ .reset false :: rest) (ht : step s = .next t) : fifoContents t = fifoContents s := by
  rcases step_next ht with ⟨-, rfl⟩ | ⟨-, -, -, hw⟩ | ⟨-, -, -, hr⟩ | ⟨_, _, _, -, rfl⟩ | ⟨_, _, -, rfl⟩ | ⟨_, _, -, rfl⟩ |
    ⟨_, -, rfl⟩ | ⟨rest, hs, -⟩
  case inr.inl =>
    rcases wEdge_next hw with ⟨-, rfl⟩ | ⟨hrow, -⟩ | ⟨-, rfl⟩
    · rfl
    · exact absurd hrow hpush
    · exact fifoContents_congr (finishW_par s) (finishW_rbin s) (finishW_wbin s) (finishW_mem s)
  case inr.inr.inl =>
    rcases rEdge_writeSide hr with ⟨-, rfl⟩ | ⟨u, rfl, hu, ⟨-, hrbin⟩ | ⟨hrow, -⟩⟩
    · rfl
    · exact fifoContents_congr ((finishR_par u).trans hu.par) ((finishR_rbin u).trans hrbin)
        ((finishR_wbin u).trans hu.wbin) ((finishR_mem u).trans hu.mem)
    · exact absurd hrow hpop
  case inr.inr.inr.inr.inr.inr.inr => exact absurd hs (hreset rest)
  all_goals rfl

/-- Settles O45: PUSH writes the first entry not in use, POP takes the entry at the read pointer, and reset makes the
pointers equal. -/
theorem fifoRefinesAQueue : Obligations.FifoRefinesAQueue := by
  intro s t hs ht
  have h := fifoInv_iff.1 hs
  refine ⟨fun hrow => h.fifoContents_of_push hrow ht, fun hrow => h.fifoContents_of_pop hrow ht, ?reset,
    fun hpush hpop hreset => fifoContents_of_other hpush hpop hreset ht⟩
  rintro ⟨rest, hreset⟩
  rw [step_of_reset hreset] at ht
  cases ht
  exact fifoContents_assertReset s _

end Sys2Proof.Machine

/-! PROOFS. Neither domain sees more of the other than its gray pointer (R80, R348): O55, O56. -/
namespace Sys2Proof.Machine

open Sys2Proof

/-! ### The W domain: two runs that agree on what it sees -/

/-- The two states agree on the W domain's registers and ports, the storage, and `rgray` with its record (R13, log 3). -/
structure WriteSideAgrees (s s' : State) : Prop where
  stimulus : s'.stimulus = s.stimulus
  par : s'.par = s.par
  rstN : s'.ports.rstN = s.ports.rstN
  wrEn : s'.ports.wrEn = s.ports.wrEn
  wrData : s'.ports.wrData = s.ports.wrData
  wRst : s'.wRst = s.wRst
  wbin : s'.wbin = s.wbin
  wgray : s'.wgray = s.wgray
  rq : s'.rq = s.rq
  mem : s'.mem = s.mem
  rgray : s'.rgray = s.rgray
  rgPrev : s'.rgPrev = s.rgPrev
  rgChanged : s'.rgChanged = s.rgChanged

namespace WriteSideAgrees

section
variable {s s' : State} (h : WriteSideAgrees s s')
include h

theorem wRow_eq : wRow s' = wRow s := by
  have hstep : wStep s' = wStep s := by rw [wStep, wStep, h.stimulus, h.rstN, h.wRst]
  have hfull : wrFull s' = wrFull s := by rw [wrFull, wrFull, h.rq, h.par, h.wbin]
  rw [wRow, wRow, hstep, wSignals, wSignals, h.wrEn, hfull, h.par]

theorem wEdgeInReset_agrees : WriteSideAgrees (wEdgeInReset s) (wEdgeInReset s') where
  __ := h
  stimulus := congrArg List.tail h.stimulus
  wRst := congrArg₂ ResetSync.clock h.rstN h.wRst
  rgChanged := rfl

theorem pushByte_agrees (b : Byte) : WriteSideAgrees (pushByte b s) (pushByte b s') where
  __ := h
  wbin := congrArg₂ Params.inc h.par h.wbin
  wgray := congrArg gray (congrArg₂ Params.inc h.par h.wbin)
  mem := by rw [pushByte_mem, pushByte_mem, h.mem, h.wbin]

/-- R136: the two shifts take the same sample. -/
theorem finishW_agrees {d : Draw} {rest : List Stimulus} (hs : s.stimulus = .wclk d :: rest) :
    WriteSideAgrees (finishW s) (finishW s') := by
  rw [finishW_of_wclk hs, finishW_of_wclk (h.stimulus.trans hs)]
  exact { h with
    stimulus := rfl
    rq := by simp only [h.rq, h.rgChanged, h.rgray, h.rgPrev]
    rgChanged := rfl }

/-- The two runs take the same row, and it writes the same. -/
theorem wEdge_agrees {d : Draw} {rest : List Stimulus} {t : State} (hs : s.stimulus = .wclk d :: rest)
    (ht : wEdge s = .next t) : ∃ t', wEdge s' = .next t' ∧ WriteSideAgrees t t' := by
  rcases wEdge_next ht with ⟨hrow, rfl⟩ | ⟨hrow, -, hlt, rfl⟩ | ⟨hrow, rfl⟩
  · exact ⟨_, wEdge_of_no_row (h.wRow_eq.trans hrow), h.wEdgeInReset_agrees⟩
  · refine ⟨_, wEdge_of_push (h.wRow_eq.trans hrow) ?_, ?_⟩
    · rwa [h.wbin, h.par]
    · rw [h.wrData]
      exact (h.pushByte_agrees s.ports.wrData).finishW_agrees hs
  · refine ⟨_, wEdge_of_no_push ?_, h.finishW_agrees hs⟩
    rwa [h.wRow_eq]

end

end WriteSideAgrees

/-- Settles O56: what the W domain sees being alike, so is what it does. -/
theorem writeDomainSeesOnlyTheGrayPointer : Obligations.WriteDomainSeesOnlyTheGrayPointer := by
  intro s s' t d rest hs hstim hpar hrst hen hdata hwRst hwbin hwgray hrq hmem hrgray hrgPrev hrgChanged ht
  have h : WriteSideAgrees s s' :=
    ⟨hstim, hpar, hrst, hen, hdata, hwRst, hwbin, hwgray, hrq, hmem, hrgray, hrgPrev, hrgChanged⟩
  rw [step_of_wclk hs] at ht
  obtain ⟨t', ht', hagree⟩ := h.wEdge_agrees hs ht
  rw [← step_of_wclk (hstim.trans hs)] at ht'
  exact ⟨t', ht', hagree.wRst, hagree.wbin, hagree.wgray, hagree.rq, hagree.mem⟩

/-! ### The R domain: the write side replaced -/

/-- The parts of the state that no R step reads but for one entry: the W domain's registers and ports, and the storage. -/
structure WriteSide where
  wbin : Ptr
  rq : Sync
  mem : List Host.Cell
  wRst : ResetSync
  wrEn : Bool
  wrData : Byte

/-- The state with those parts replaced. -/
def WriteSide.put (w : WriteSide) (s : State) : State :=
  { s with wbin := w.wbin, rq := w.rq, mem := w.mem, wRst := w.wRst, ports := { s.ports with wrEn := w.wrEn, wrData := w.wrData } }

namespace WriteSide

variable (w : WriteSide) (s : State)

theorem rRow_put : rRow (w.put s) = rRow s := rfl

theorem rEdgeInReset_put : rEdgeInReset (w.put s) = w.put (rEdgeInReset s) := rfl

theorem clearPulses_put : clearPulses (w.put s) = w.put (clearPulses s) := rfl

theorem advanceRead_put : advanceRead (w.put s) = w.put (advanceRead s) := rfl

theorem startBlock_put : startBlock (w.put s) = w.put (startBlock s) := rfl

theorem finishR_put : finishR (w.put s) = w.put (finishR s) := by
  have hstim : (w.put s).stimulus = s.stimulus := rfl
  unfold finishR
  rw [hstim]
  split <;> rfl

theorem advanceTx_put : advanceTx (w.put s) = w.put (advanceTx s) := by
  unfold advanceTx
  rw [apply_ite w.put]
  rfl

theorem acceptRequest_put : acceptRequest (w.put s) = w.put (acceptRequest s) := by
  have hkind : (w.put s).ports.host.reqKind = s.ports.host.reqKind := rfl
  unfold acceptRequest
  rw [hkind]
  split <;> rfl

theorem ackStage_put : ackStage (w.put s) = w.put (ackStage s) := by
  have hstage : (w.put s).stage = s.stage := rfl
  have hrole : (w.put s).cfgQ.role = s.cfgQ.role := rfl
  unfold ackStage ackOpenChannel
  rw [hstage, hrole]
  cases s.stage
  case openChannel => cases s.cfgQ.role <;> rfl
  all_goals rfl

theorem frameEffect_put (F : List Byte) (c : FrameClass) : frameEffect F (w.put s) c = w.put (frameEffect F s c) := by
  cases c
  case eventNoErrorAck => exact ackStage_put w s
  all_goals rfl

theorem dispatch_put (F : List Byte) : dispatch F (w.put s) = w.put (dispatch F s) := by
  rw [dispatch_eq, dispatch_eq]
  exact frameEffect_put w s F _

/-- Of the assembler rows only the last goes on, to a frame row. -/
theorem asmEffect_put (b : Byte) (c : AsmCase) : asmEffect b (w.put s) c = w.put (asmEffect b s c) := by
  cases c
  case checksumByte => exact dispatch_put w { storeFaBuf s.faPos.toNat b s with faIn := false, faPos := 0 } (candidate b s)
  all_goals rfl

variable {s}

/-- R10: the byte a POP reads is that of one entry. -/
theorem fifoRead_put (h : memRead w.mem s.rbin.toNat = memRead s.mem s.rbin.toNat) : fifoRead (w.put s) = fifoRead s := by
  rw [fifoRead, fifoRead, ← h]
  rfl

/-- R80, R348: every row of an R edge does the same. -/
theorem rEdge_put {t : State} (h : memRead w.mem s.rbin.toNat = memRead s.mem s.rbin.toNat) (ht : rEdge s = .next t) :
    rEdge (w.put s) = .next (w.put t) := by
  rcases rEdge_next ht with ⟨hrow, rfl⟩ | ⟨hrow, -, hidx, rfl⟩ | ⟨hrow, -, -, rfl⟩ | ⟨hrow, -, rfl⟩ |
    ⟨b, c, hrow, -, -, -, hb, hc, rfl⟩ | ⟨hrow, rfl⟩ <;> rw [← rRow_put w s] at hrow
  · exact rEdge_of_no_row hrow
  · rw [rEdge_of_txByte hrow hidx, clearPulses_put, advanceTx_put, finishR_put]
  · rw [rEdge_of_start hrow, clearPulses_put, startBlock_put, finishR_put]
  · rw [rEdge_of_hostReq hrow, clearPulses_put, acceptRequest_put, finishR_put]
  · rw [rEdge_of_pop hrow ((w.fifoRead_put h).trans hb) hc, clearPulses_put, asmEffect_put, advanceRead_put, finishR_put]
  · rw [rEdge_of_wait hrow, clearPulses_put, finishR_put]

/-- The same of the whole step. -/
theorem step_put {t : State} {d : Draw} {rest : List Stimulus} (hs : s.stimulus = .rclk d :: rest)
    (h : memRead w.mem s.rbin.toNat = memRead s.mem s.rbin.toNat) (ht : step s = .next t) :
    step (w.put s) = .next (w.put t) := by
  rw [step_of_rclk hs] at ht
  rw [step_of_rclk (s := w.put s) hs]
  exact w.rEdge_put h ht

end WriteSide

/-- Settles O55: each part of an R step commutes with the replacement. -/
theorem readDomainSeesOnlyTheGrayPointer : Obligations.ReadDomainSeesOnlyTheGrayPointer :=
  fun _ _ _ _ a q m en b r hs hread ht => WriteSide.step_put ⟨a, q, m, r, en, b⟩ hs hread ht

end Sys2Proof.Machine

/-! PROOFS. The inbound frames (R113, R221): what a mask of the opcode table reads of a frame, the class of the first row that
matches, the frames that decode, and O2. -/
namespace Sys2Proof

/-! ### The key of a frame, byte by byte -/

theorem append_and_eq_append_iff {m n : Nat} {x c p : BitVec m} {y d q : BitVec n} :
    (x ++ y) &&& (c ++ d) = p ++ q ↔ x &&& c = p ∧ y &&& d = q := by
  rw [BitVec.and_append]
  constructor
  · intro h
    exact ⟨by rw [← BitVec.extractLsb'_append_eq_left (a := x &&& c), h, BitVec.extractLsb'_append_eq_left],
      by rw [← BitVec.extractLsb'_append_eq_right (b := y &&& d), h, BitVec.extractLsb'_append_eq_right]⟩
  · rintro ⟨rfl, rfl⟩
    rfl

/-- R113: a mask and a match written in whole bytes compare each byte of the key by itself. -/
theorem frameKey_and_eq_iff (F : List Byte) (m0 m1 m2 m3 m4 m5 p0 p1 p2 p3 p4 p5 : Byte) :
    frameKey F &&& (m0 ++ m1 ++ m2 ++ m3 ++ m4 ++ m5) = p0 ++ p1 ++ p2 ++ p3 ++ p4 ++ p5 ↔
      frameByte F 0 &&& m0 = p0 ∧ frameByte F 1 &&& m1 = p1 ∧ frameByte F 2 &&& m2 = p2 ∧ frameByte F 3 &&& m3 = p3 ∧
        frameByte F 4 &&& m4 = p4 ∧ frameByte F 5 &&& m5 = p5 := by
  refine (append_and_eq_append_iff (m := 8 + 8 + 8 + 8 + 8) (n := 8)).trans ?_
  simp only [append_and_eq_append_iff, and_assoc]

theorem byte_and_ff (x : Byte) : x &&& 0xFF#8 = x := BitVec.and_allOnes

/-! ### The four masks of the table, on a frame that begins with the sync -/

section
variable {F : List Byte} (hsync : frameByte F 0 = SYNC)
include hsync

theorem frameKey_mask_sync : frameKey F &&& 0xFF0000000000 = 0xA40000000000 := by
  refine (frameKey_and_eq_iff F 0xFF 0 0 0 0 0 0xA4 0 0 0 0 0).2 ?_
  simp [hsync]

theorem frameKey_mask_id (id : Byte) :
    frameKey F &&& 0xFF00FF000000 = 0xA4#8 ++ 0#8 ++ id ++ 0#8 ++ 0#8 ++ 0#8 ↔ frameByte F 2 = id := by
  refine (frameKey_and_eq_iff F 0xFF 0 0xFF 0 0 0 0xA4 0 id 0 0 0).trans ?_
  simp [hsync, byte_and_ff]

theorem frameKey_mask_disc (id disc : Byte) :
    frameKey F &&& 0xFF00FF00FF00 = 0xA4#8 ++ 0#8 ++ id ++ 0#8 ++ disc ++ 0#8 ↔ frameByte F 2 = id ∧ frameByte F 4 = disc := by
  refine (frameKey_and_eq_iff F 0xFF 0 0xFF 0 0xFF 0 0xA4 0 id 0 disc 0).trans ?_
  simp [hsync, byte_and_ff]

theorem frameKey_mask_code (id disc code : Byte) :
    frameKey F &&& 0xFF00FF00FFFF = 0xA4#8 ++ 0#8 ++ id ++ 0#8 ++ disc ++ code ↔
      frameByte F 2 = id ∧ frameByte F 4 = disc ∧ frameByte F 5 = code := by
  refine (frameKey_and_eq_iff F 0xFF 0 0xFF 0 0xFF 0xFF 0xA4 0 id 0 disc code).trans ?_
  simp [hsync, byte_and_ff]

end

/-! ### The first row that matches -/

theorem map_find?_cons {α β : Type} (p : α → Bool) (f : α → β) (a : α) (l : List α) :
    ((a :: l).find? p).map f = if p a then some (f a) else (l.find? p).map f := by
  cases h : p a <;> simp [h]

/-- R113 against R221: the masks turn the rows into conditions on single bytes, and the order of the rows meets the order of
the dispatcher in each of its cases. -/
theorem firstFrameRow_eq {F : List Byte} (hsync : frameByte F 0 = SYNC) (sig : FrameSignals) :
    firstFrameRow sig F = some (frameClass sig F) := by
  have any : frameKey F &&& 0xFF0000000000 = 0xA40000000000 := frameKey_mask_sync hsync
  have event : frameKey F &&& 0xFF00FF000000 = 0xA40040000000 ↔ _ := frameKey_mask_id hsync 0x40
  have bcast : frameKey F &&& 0xFF00FF000000 = 0xA4004E000000 ↔ _ := frameKey_mask_id hsync 0x4E
  have code0 : frameKey F &&& 0xFF00FF00FFFF = 0xA40040000100 ↔ _ := frameKey_mask_code hsync 0x40 1 0
  have code1 : frameKey F &&& 0xFF00FF00FFFF = 0xA40040000101 ↔ _ := frameKey_mask_code hsync 0x40 1 1
  have code2 : frameKey F &&& 0xFF00FF00FFFF = 0xA40040000102 ↔ _ := frameKey_mask_code hsync 0x40 1 2
  have code3 : frameKey F &&& 0xFF00FF00FFFF = 0xA40040000103 ↔ _ := frameKey_mask_code hsync 0x40 1 3
  have otherCode : frameKey F &&& 0xFF00FF00FF00 = 0xA40040000100 ↔ _ := frameKey_mask_disc hsync 0x40 1
  simp only [firstFrameRow, frameRows, map_find?_cons, List.find?_nil, FrameCondition.holds, any, event, bcast, code0, code1,
    code2, code3, otherCode, Bool.and_eq_true, beq_iff_eq, true_and, decide_eq_true_eq, bne_iff_ne]
  unfold frameClass classify
  rcases checksumOk F with _ | _
  · simp
  by_cases hevent : frameByte F 2 = 0x40#8
  · by_cases hlen : (frameByte F 1).toNat < 3
    · simp [hevent, hlen]
    have hlen' : 3 ≤ (frameByte F 1).toNat := by omega
    by_cases hdisc : frameByte F 4 = 0x01#8
    · by_cases h0 : frameByte F 5 = 0x00#8
      · cases sig.waiting <;> simp [hevent, hlen, hlen', hdisc, h0]
      by_cases h1 : frameByte F 5 = 0x01#8
      · simp [hevent, hlen, hlen', hdisc, h1]
      by_cases h2 : frameByte F 5 = 0x02#8
      · simp [hevent, hlen, hlen', hdisc, h2]
      by_cases h3 : frameByte F 5 = 0x03#8
      · cases sig.txcEn <;> simp [hevent, hlen, hlen', hdisc, h3]
      have h4 : 4 ≤ (frameByte F 5).toNat := by bv_omega
      simp [hevent, hlen, hlen', hdisc, h0, h1, h2, h3, h4]
    · simp [hevent, hlen, hlen', hdisc]
  by_cases hbcast : frameByte F 2 = 0x4E#8
  · cases sig.bcastEn <;> simp [hbcast]
  · simp [hevent, hbcast]

/-- R90, R107: exactly the frames the assembler can complete decode, each to the row of its class. -/
theorem decode_frame_eq_ok_iff {p : Params} {sig : FrameSignals} {F : List Byte} {i : Instr} :
    decode p (.frame sig F) = .ok i ↔ candidateFrame F = true ∧ i = (frameClass sig F).row F := by
  simp only [decode, decodeFrame, candidateFrame]
  by_cases hsync : frameByte F 0 = 0xA4#8
  · rw [firstFrameRow_eq hsync]
    cases frameShape F <;> cases F.tail.contains SYNC <;> simp [hsync, eq_comm]
  · cases frameShape F <;> simp [hsync]

/-- Settles O2: the row of the class, by `firstFrameRow_eq`; the checks before it, by the parts of `candidateFrame`. -/
theorem frameTableGivesTheDispatchClass : Obligations.FrameTableGivesTheDispatchClass :=
  fun _ _ _ _ => decode_frame_eq_ok_iff

end Sys2Proof

/-! PROOFS. Decoding what the encoder writes, format by format (R98, R103, R113, R160, R191), and O1 and O4. -/
namespace Sys2Proof

open Sys2Proof.Machine

section
variable {p : Params}

/-! ### Frame rows -/

theorem decode_frameRow {c : FrameClass} {F : List Byte} (h : frameOperandOk c F = true) :
    decode p (.frame c.signals F) = .ok (c.row F) := by
  obtain ⟨hF, hc⟩ : candidateFrame F = true ∧ frameClass c.signals F = c := by simpa [frameOperandOk] using h
  exact decode_frame_eq_ok_iff.2 ⟨hF, by rw [hc]⟩

/-! ### Outbound rows -/

/-- R72, R97: the two bytes of a field, read back. -/
theorem half_loByte_hiByte (v : Half) : half (loByte v) (hiByte v) = v :=
  BitVec.extractLsb'_append_extractLsb' (w := 8) (len := 8)

theorem extractLsb'_append_byte (d : Data6) (k n : Nat) :
    d.extractLsb' (8 * (k + 1)) n ++ d.byte k = d.extractLsb' (8 * k) (n + 8) :=
  BitVec.extractLsb'_append_extractLsb'_eq_extractLsb' rfl

/-- R73: the six bytes of the data port, read back. -/
theorem packData_byte (d : Data6) : packData (d.byte 0) (d.byte 1) (d.byte 2) (d.byte 3) (d.byte 4) (d.byte 5) = d :=
  calc packData (d.byte 0) (d.byte 1) (d.byte 2) (d.byte 3) (d.byte 4) (d.byte 5)
    _ = d.extractLsb' (8 * (4 + 1)) 8 ++ d.byte 4 ++ d.byte 3 ++ d.byte 2 ++ d.byte 1 ++ d.byte 0 := rfl
    _ = d.extractLsb' 0 48 := by
      rw [extractLsb'_append_byte d 4, extractLsb'_append_byte d 3, extractLsb'_append_byte d 2, extractLsb'_append_byte d 1,
        extractLsb'_append_byte d 0]
    _ = d := BitVec.extractLsb'_eq_self

/-- R98, R102, R191, R207: a built frame of the command's length passes every check, so only its arguments are read. -/
theorem decodeTx_build {k : TxKind} {P : List Byte} (hlen : P.length + 1 = k.len) :
    decodeTx p k (build (k.id p) (CHANNEL :: P)) = txRow k (build (k.id p) (CHANNEL :: P)) := by
  have hsize : (build (k.id p) (CHANNEL :: P)).length = k.len + 4 := by rw [length_build, List.length_cons, hlen]
  have hhead : (build (k.id p) (CHANNEL :: P)).take 3 = [SYNC, BitVec.ofNat 8 k.len, k.id p] := by rw [← hlen]; rfl
  have hchannel : frameByte (build (k.id p) (CHANNEL :: P)) 3 = CHANNEL := rfl
  have hsum : checksumOk (build (k.id p) (CHANNEL :: P)) = true := by rw [checksumOk, xorAll_build]; rfl
  simp only [decodeTx, hsize, hhead, hchannel, hsum, ne_eq, not_true_eq_false, if_false, Bool.not_true, Bool.false_eq_true]

/-! ### Host rows -/

theorem hostRow_reservedABKind (low : BitVec 1) : hostRow (reservedABKind low) = .hostReservedAB low := by
  revert low
  decide

theorem hostRow_reservedCFKind (low : BitVec 2) : hostRow (reservedCFKind low) = .hostReservedCF low := by
  revert low
  decide

/-! ### Assembler rows -/

theorem decode_asmByte {sig : AsmSignals} {b : Byte} {c : AsmCase} (h : asmCase sig b = some c) :
    decode p (.asmByte sig b) = .ok (c.row b) := by
  simp only [decode, h]

/-- R160 to R168: the smallest signals of each case, with a byte the row admits, take that case. -/
theorem decode_encode_asmRow (c : AsmCase) (b : Byte) (h : wellFormed (c.row b) = true) :
    decode p (encode p (c.row b)) = .ok (c.row b) := by
  cases c <;> simp only [AsmCase.row, wellFormed, Bool.and_eq_true, bne_iff_ne, decide_eq_true_eq] at h
  case huntDiscard =>
    obtain ⟨huntDiscard, -⟩ := asmCase_of_conditions ⟨false, 0, 0⟩ b
    exact decode_asmByte (huntDiscard rfl h)
  case huntSync => rfl
  case resync => rfl
  case length =>
    obtain ⟨hb, hle⟩ := h
    obtain ⟨-, -, -, length, -⟩ := asmCase_of_conditions ⟨true, 1, 0⟩ b
    exact decode_asmByte (length rfl hb rfl hle)
  case lengthInvalid =>
    obtain ⟨hb, hgt⟩ := h
    obtain ⟨-, -, -, -, lengthInvalid, -⟩ := asmCase_of_conditions ⟨true, 1, 0⟩ b
    exact decode_asmByte (lengthInvalid rfl hb rfl hgt)
  case messageId =>
    obtain ⟨-, -, -, -, -, messageId, -⟩ := asmCase_of_conditions ⟨true, 2, 0⟩ b
    exact decode_asmByte (messageId rfl h rfl)
  case payloadByte =>
    obtain ⟨-, -, -, -, -, -, payloadByte, -⟩ := asmCase_of_conditions ⟨true, 3, 1⟩ b
    exact decode_asmByte (payloadByte rfl h (by decide) (by decide) (by decide))
  case checksumByte =>
    obtain ⟨-, -, -, -, -, -, -, checksumByte⟩ := asmCase_of_conditions ⟨true, 3, 0⟩ b
    exact decode_asmByte (checksumByte rfl h (by decide) (by decide) (by decide))

end

/-! ### The statements -/

/-- Settles O1, by the five formats of R113: frame rows by their class, outbound rows by `decodeTx_build` and the byte order
of their fields, host rows by their code, assembler rows by their case, port rows by their one pattern. -/
theorem decodeInvertsEncode : Obligations.DecodeInvertsEncode := by
  intro p i h
  cases i
  case checksumError | eventMalformed | functionResponse | eventNoErrorAck | eventNoErrorIgnored | eventSearchTimeout |
      eventRxFail | eventTxComplete | eventTxCompleteNoCallback | eventOther | broadcast | broadcastNoCallback |
      otherMessage =>
    exact decode_frameRow h
  case systemReset => exact decodeTx_build (k := .kReset) (P := []) rfl
  case capabilityRequest target => exact decodeTx_build (k := .kCapreq) (P := [target]) rfl
  case assignChannel ty net => exact decodeTx_build (k := .kAssign) (P := [ty, net]) rfl
  case setChannelId dev dty tty =>
    refine (decodeTx_build (k := .kChid) (P := [loByte dev, hiByte dev, dty, tty]) rfl).trans ?_
    exact congrArg (fun v => Except.ok (Instr.setChannelId v dty tty)) (half_loByte_hiByte dev)
  case setPeriod v =>
    refine (decodeTx_build (k := .kPeriod) (P := [loByte v, hiByte v]) rfl).trans ?_
    exact congrArg (fun v => Except.ok (Instr.setPeriod v)) (half_loByte_hiByte v)
  case setFrequency f => exact decodeTx_build (k := .kFreq) (P := [f]) rfl
  case setSearchTimeout t => exact decodeTx_build (k := .kStimeout) (P := [t]) rfl
  case openChannel => exact decodeTx_build (k := .kOpen) (P := []) rfl
  case broadcastData a d =>
    refine (decodeTx_build (k := .kBcast) (P := [loByte a, hiByte a] ++ dataBytes d) rfl).trans ?_
    exact congrArg₂ (fun a d => Except.ok (Instr.broadcastData a d)) (half_loByte_hiByte a) (packData_byte d)
  case acknowledgedData a d =>
    refine (decodeTx_build (k := .kAckdata) (P := [loByte a, hiByte a] ++ dataBytes d) rfl).trans ?_
    exact congrArg₂ (fun a d => Except.ok (Instr.acknowledgedData a d)) (half_loByte_hiByte a) (packData_byte d)
  case addressAnnounce a =>
    refine (decodeTx_build (k := .announce) (P := [loByte a, hiByte a] ++ allOnes) rfl).trans ?_
    exact congrArg (fun a => Except.ok (Instr.addressAnnounce a)) (half_loByte_hiByte a)
  case hostReservedAB low => exact congrArg Except.ok (hostRow_reservedABKind low)
  case hostReservedCF low => exact congrArg Except.ok (hostRow_reservedCFKind low)
  case huntDiscard b => exact decode_encode_asmRow .huntDiscard b h
  case length b => exact decode_encode_asmRow .length b h
  case lengthInvalid b => exact decode_encode_asmRow .lengthInvalid b h
  case messageId b => exact decode_encode_asmRow .messageId b h
  case payloadByte b => exact decode_encode_asmRow .payloadByte b h
  case checksumByte b => exact decode_encode_asmRow .checksumByte b h
  case hostKReset | hostKCapreq | hostKAssign | hostKChid | hostKPeriod | hostKFreq | hostKStimeout | hostKOpen | hostKBcast |
      hostKAckdata | huntSync | resync | push | pushDrop | wIdle | txByte | txStall | start | hostReq | pop | rIdleInIdle |
      rIdleNoRequest | rIdleNotReady =>
    rfl

/-- Settles O4: the inbound frames by O2's rule, the outbound frames as the encoder's own words by O1, the byte by its case,
the host code and the port patterns by their rows. -/
theorem sampleWordsDecode : Obligations.SampleWordsDecode := by
  refine ⟨?ack, ?bcast, ?assign, ?chid, rfl, ?resync, rfl, rfl⟩
  case ack => exact decode_frame_eq_ok_iff.2 (by decide)
  case bcast => exact decode_frame_eq_ok_iff.2 (by decide)
  case assign => exact decodeInvertsEncode Params.default (.assignChannel 0x10 0x00) rfl
  case chid => exact decodeInvertsEncode Params.default (.setChannelId 0x1234 0x00 0x00) rfl
  case resync =>
    obtain ⟨-, -, resync, -⟩ := asmCase_of_conditions ⟨true, 7, 9⟩ SYNC
    exact decode_asmByte (resync rfl rfl)

end Sys2Proof

/-! PROOFS. The rows of a step and of the ports: the decoded row is the step (R113, R114, R280, R288), what an outbound row
loads (R191, R195), the host rows (R103, R106), and O6, O7, O29, O34, O35. -/
namespace Sys2Proof.Machine

open Sys2Proof

/-! ### The row of a step -/

section
variable {s : State} {d : Draw} {rest : List Stimulus} {i : Instr}

/-- R114: the three patterns of the W port. -/
theorem decode_wPort (p : Params) (en full : Bool) :
    decode p (.wPort (BitVec.ofBool en ++ BitVec.ofBool full)) =
      .ok (if en then (if full then .pushDrop else .push) else .wIdle) := by
  cases en <;> cases full <;> rfl

/-- R114, R282: the rows of the R port leave no pattern out. -/
theorem exists_decode_rPort (p : Params) (w : BitVec 7) : ∃ i, decode p (.rPort w) = .ok i := by
  have htotal : ∀ w, (firstPortRow rPortRows w).isSome = true := by decide
  obtain ⟨i, hi⟩ := Option.isSome_iff_exists.1 (htotal w)
  exact ⟨i, by simp only [decode, hi]⟩

theorem wRow_of_decode (h : WStepAt s d rest) (hi : decode s.par (.wPort (wSignals s)) = .ok i) :
    wRow s = some i := by
  obtain ⟨hs, hrst, hff⟩ := h
  have hstep : wStep s = true := by rw [wStep_of_wclk hs, hrst, hff]; rfl
  rw [wRow, if_pos hstep, hi]
  rfl

theorem rRow_of_decode (h : RStepAt s d rest) (hi : decode s.par (.rPort (rSignals s)) = .ok i) :
    rRow s = some i := by
  obtain ⟨hs, hrst, hff⟩ := h
  have hstep : rStep s = true := by rw [rStep_of_rclk hs, hrst, hff]; rfl
  rw [rRow, if_pos hstep, hi]
  rfl

theorem step_eq_exec_of_wRow (h : wRow s = some i) : step s = exec i s := by
  simp only [step_of_wRow h, wEdge, h]

theorem step_eq_exec_of_rRow (h : rRow s = some i) : step s = exec i s := by
  simp only [step_of_rRow h, rEdge, h]

end

/-- Settles O6: the signals of a W step are `wr_en` and `wr_full`. -/
theorem writeStepFollowsTheEnables : Obligations.WriteStepFollowsTheEnables :=
  fun s _ _ h => wRow_of_decode h (decode_wPort s.par s.ports.wrEn (wrFull s))

/-- Settles O7: every pattern of either port decodes, and the edge runs the row it decodes to. -/
theorem stepRunsTheDecodedRow : Obligations.StepRunsTheDecodedRow := by
  intro s d rest
  constructor
  · intro h
    have hi := decode_wPort s.par s.ports.wrEn (wrFull s)
    exact ⟨_, hi, step_eq_exec_of_wRow (wRow_of_decode h hi)⟩
  · intro h
    obtain ⟨i, hi⟩ := exists_decode_rPort s.par (rSignals s)
    exact ⟨i, hi, step_eq_exec_of_rRow (rRow_of_decode h hi)⟩

/-! ### What an outbound row loads -/

/-- R195: `load_tx` is the load of the built frame. -/
theorem loadTx_eq (id : Byte) (P : List Byte) (s : State) : loadTx id P s = withLoadedFrame (build id P) s := by
  have hfill : fillTxBuf (build id P) s.txBuf = s.txBuf.mapIdx fun i b => ((build id P)[i]?).getD b := by
    ext i hi
    by_cases h : i < (build id P).length <;> simp [fillTxBuf, frameByte, h]
  rw [loadTx, withLoadedFrame, hfill, length_build]

/-- R191, R195 to R206: the operation whose word is an outbound frame is an outbound row, and it loads that frame. -/
theorem exec_of_encode_txFrame {s : State} {i : Instr} {k : TxKind} {T : List Byte} (h : encode s.par i = .txFrame k T) :
    exec i s = whenSelected (encoderFree s) (.next (withLoadedFrame T s)) := by
  cases i <;> cases h
  all_goals exact congrArg (fun t => whenSelected (encoderFree s) (.next t)) (loadTx_eq _ _ s)

/-- Settles O29: an outbound row answers a next state only by its load. -/
theorem loadedFramesAreTheEncodings : Obligations.LoadedFramesAreTheEncodings := by
  intro s t i k T henc hexec
  rw [exec_of_encode_txFrame henc] at hexec
  obtain ⟨-, hload⟩ := whenSelected_next.1 hexec
  cases hload
  rfl

/-! ### The host rows -/

section
variable {s : State} {i j : Instr}

theorem encoderFree_of_hostReqReady (h : hostReqReady s = true) : encoderFree s = true := by
  simp only [hostReqReady, Bool.and_eq_true] at h
  obtain ⟨⟨⟨-, hfree⟩, -⟩, -⟩ := h
  exact hfree

theorem hostSelects_of_ready (hready : hostReqReady s = true) (hvalid : s.ports.host.reqValid = true)
    (hrow : hostRow s.ports.host.reqKind = i) : hostSelects s i = true := by
  simp [hostSelects, hready, hvalid, hrow]

theorem channelType_eq (p : Params) (r : Role) : channelType p r = if r = .slave then p.chtypeSlave else p.chtypeMaster := by
  cases r <;> rfl

/-- R103, R104: a selected host row and its command's outbound row do the same load. -/
theorem exec_hostRow_eq_txRow (hj : hostTxRow s i = some j) (hsel : hostSelects s i = true)
    (hfree : encoderFree s = true) : ∃ t, exec i s = .next t ∧ exec j s = .next t := by
  cases i <;> cases hj
  all_goals exact ⟨_, whenSelected_next.2 ⟨hsel, rfl⟩, whenSelected_next.2 ⟨hfree, rfl⟩⟩

end

/-- Settles O34: the kind's row is the one selected, and `hostTxRow` names its command. -/
theorem hostKindsLoadTheirCommands : Obligations.HostKindsLoadTheirCommands := by
  intro s hready hvalid
  have load {kind : BitVec 4} {j : Instr} (hkind : s.ports.host.reqKind = kind) (hj : hostTxRow s (hostRow kind) = some j) :
      ∃ t, exec (hostRow kind) s = .next t ∧ exec j s = .next t :=
    exec_hostRow_eq_txRow hj (hostSelects_of_ready hready hvalid (congrArg hostRow hkind)) (encoderFree_of_hostReqReady hready)
  rw [← channelType_eq]
  exact ⟨fun h => load h rfl, fun h => load h rfl, fun h => load h rfl, fun h => load h rfl, fun h => load h rfl,
    fun h => load h rfl, fun h => load h rfl, fun h => load h rfl, fun h => load h rfl, fun h => load h rfl⟩

/-- Settles O35: a reserved row, selected, is the report alone. -/
theorem reservedKindsReport : Obligations.ReservedKindsReport := by
  intro s hready hvalid
  constructor
  · intro low hkind
    have hrow := (congrArg hostRow hkind).trans (hostRow_reservedABKind low)
    exact whenSelected_next.2 ⟨hostSelects_of_ready hready hvalid hrow, rfl⟩
  · intro low hkind
    have hrow := (congrArg hostRow hkind).trans (hostRow_reservedCFKind low)
    exact whenSelected_next.2 ⟨hostSelects_of_ready hready hvalid hrow, rfl⟩

end Sys2Proof.Machine

/-! PROOFS. The port rows read forward: which row a step runs under which signals (R114, R282), and its next state. O8, O42,
O10, O33. -/
namespace Sys2Proof.Machine

open Sys2Proof

/-! ### The row a port step selects -/

section
variable {s : State} {d : Draw} {rest : List Stimulus} {i : Instr}

/-- R114: the rows of the R port, in the table's order, on the seven signals. -/
theorem firstPortRow_signals : ∀ active txReady idle start valid ready empty : Bool,
    firstPortRow rPortRows (BitVec.ofBool active ++ BitVec.ofBool txReady ++ BitVec.ofBool idle ++ BitVec.ofBool start ++
      BitVec.ofBool valid ++ BitVec.ofBool ready ++ BitVec.ofBool empty) =
    some (if active then (if txReady then .txByte else .txStall)
      else if idle then (if start then .start else .rIdleInIdle)
      else if valid && ready && empty then .hostReq
      else if !empty then .pop
      else if valid then .rIdleNotReady else .rIdleNoRequest) := by
  decide

/-- R114, R282: the row of an R step by its signals. -/
theorem rRow_of_rStepAt (h : RStepAt s d rest) :
    rRow s = some (if s.txActive then (if s.ports.txReady then .txByte else .txStall)
      else if s.stage == .idle then (if s.ports.host.start then .start else .rIdleInIdle)
      else if s.ports.host.reqValid && hostReqReady s && rdEmpty s then .hostReq
      else if !rdEmpty s then .pop
      else if s.ports.host.reqValid then .rIdleNotReady else .rIdleNoRequest) :=
  rRow_of_decode h (by simp only [decode, rSignals, firstPortRow_signals])

theorem exec_eq_wEdge (h : wRow s = some i) : exec i s = wEdge s := by simp only [wEdge, h]

theorem exec_eq_rEdge (h : rRow s = some i) : exec i s = rEdge s := by simp only [rEdge, h]

/-- R136: the edge's own update in the words of the statements. -/
theorem finishW_eq_afterWEdge (h : s.stimulus = .wclk d :: rest) : finishW s = afterWEdge d rest s := finishW_of_wclk h

/-- R137, R281: the same of an R edge, whose first writes clear the pulses. -/
theorem finishR_clearPulses_eq_afterREdge (h : s.stimulus = .rclk d :: rest) : finishR (clearPulses s) = afterREdge d rest s :=
  finishR_of_rclk (s := clearPulses s) h

end

/-! ### No edge is refused -/

/-- R143, R333: what the spec says to refuse, by name. -/
theorem step_of_outside {s : State} {v : Violation} {rest : List Stimulus} (h : s.stimulus = .outside v :: rest) :
    step s = .refused (.outsideDomain v) := by
  simp only [step, h]

theorem whenSelected_ne_refused {sel : Bool} {o : Host.Outcome State Fault Refusal} (hsel : sel = true)
    (ho : ∀ r, o ≠ .refused r) (r : Refusal) : whenSelected sel o ≠ .refused r := by
  rw [hsel, whenSelected_true]
  exact ho r

/-- R135: a POP faults or answers a next state. -/
theorem popByte_ne_refused (s : State) (r : Refusal) : popByte s ≠ .refused r := by
  unfold popByte
  split
  · nofun
  · split <;> nofun

/-- R114, R144: the row of a W edge is one it selects. -/
theorem wEdge_ne_refused (s : State) (r : Refusal) : wEdge s ≠ .refused r := by
  cases hrow : wRow s with
  | none => rw [wEdge_of_no_row hrow]; nofun
  | some i =>
    rcases wRow_cases hrow with ⟨rfl, -⟩ | ⟨rfl, -⟩ | ⟨rfl, -⟩
    · rw [← exec_eq_wEdge hrow]
      exact whenSelected_ne_refused (wSelects_of_wRow hrow) (fun r => by split <;> nofun) r
    · rw [wEdge_of_no_push (.inl hrow)]; nofun
    · rw [wEdge_of_no_push (.inr hrow)]; nofun

/-- R144, R220, R282: the row of an R edge is one it selects, and a POP goes on to rows it selects itself. -/
theorem rEdge_ne_refused (s : State) (r : Refusal) : rEdge s ≠ .refused r := by
  cases hrow : rRow s with
  | none => rw [rEdge_of_no_row hrow]; nofun
  | some i =>
    rcases rRow_cases hrow with ⟨rfl, -⟩ | ⟨rfl, -⟩ | ⟨rfl, -⟩ | ⟨rfl, -⟩ | ⟨rfl, -⟩ | ⟨rfl, -⟩ | ⟨rfl, -⟩ | ⟨rfl, -⟩
    case inl =>
      rw [← exec_eq_rEdge hrow]
      exact whenSelected_ne_refused (rSelects_of_rRow hrow) (fun r => by split <;> nofun) r
    case inr.inr.inl => rw [rEdge_of_start hrow]; nofun
    case inr.inr.inr.inr.inl => rw [rEdge_of_hostReq hrow]; nofun
    case inr.inr.inr.inr.inr.inl =>
      rw [← exec_eq_rEdge hrow]
      exact whenSelected_ne_refused (rSelects_of_rRow hrow) (popByte_ne_refused s) r
    all_goals rw [rEdge_of_wait (by simp [hrow])]; nofun

/-- Settles O8, by the two kinds of edge. -/
theorem clockEdgesAreNeverRefused : Obligations.ClockEdgesAreNeverRefused := by
  rintro s r ⟨d, rest, hs | hs⟩
  · rw [step_of_wclk hs]; exact wEdge_ne_refused s r
  · rw [step_of_rclk hs]; exact rEdge_ne_refused s r

/-- Settles O42: the edges are never refused and the agents' events always have a next state. -/
theorem exactlyTheForbiddenStimuliAreRefused : Obligations.ExactlyTheForbiddenStimuliAreRefused := by
  intro s r
  constructor
  · intro h
    match hs : s.stimulus with
    | [] => rw [step_of_no_event hs] at h; cases h
    | .wclk d :: rest => exact absurd h (clockEdgesAreNeverRefused s r ⟨d, rest, .inl hs⟩)
    | .rclk d :: rest => exact absurd h (clockEdgesAreNeverRefused s r ⟨d, rest, .inr hs⟩)
    | .producer en b :: rest => rw [step_of_producer hs] at h; cases h
    | .transport ready :: rest => rw [step_of_transport hs] at h; cases h
    | .host p :: rest => rw [step_of_host hs] at h; cases h
    | .reset rstN :: rest => rw [step_of_reset hs] at h; cases h
    | .outside v :: rest =>
      rw [step_of_outside hs] at h
      cases h
      exact ⟨v, rest, rfl, rfl⟩
  · rintro ⟨v, rest, hs, rfl⟩
    exact step_of_outside hs

/-! ### The rows that write nothing of their own -/

/-- Settles O10: either row's next state is the edge's own update. -/
theorem droppedPushAndIdleEdgeOnlyShift : Obligations.DroppedPushAndIdleEdgeOnlyShift := by
  intro s d rest h
  have hrow := writeStepFollowsTheEnables s d rest h
  have shifts {i : Instr} (hi : wRow s = some i) (hdrop : i = .pushDrop ∨ i = .wIdle) :
      exec i s = .next (afterWEdge d rest s) := by
    rw [exec_eq_wEdge hi, wEdge_of_no_push (by simpa [hi] using hdrop), finishW_eq_afterWEdge h.1]
  constructor
  · intro hen hfull
    exact shifts (by simpa [hen, hfull] using hrow) (.inl rfl)
  · intro hen
    exact shifts (by simpa [hen] using hrow) (.inr rfl)

/-- Settles O33: each condition selects its row, and the row's next state is the edge's own update. -/
theorem idleReadEdgesChangeNothing : Obligations.IdleReadEdgesChangeNothing := by
  intro s d rest h hactive
  have hrow := rRow_of_rStepAt h
  have waits {i : Instr} (hi : rRow s = some i) (hidle : i = .rIdleInIdle ∨ i = .rIdleNoRequest ∨ i = .rIdleNotReady) :
      exec i s = .next (afterREdge d rest s) := by
    rw [exec_eq_rEdge hi, rEdge_of_wait (by simpa [hi] using .inr hidle), finishR_clearPulses_eq_afterREdge h.1]
  refine ⟨fun hstage hstart => ?inIdle, fun hstage hempty hvalid => ?noRequest, fun hstage hempty hvalid hready => ?notReady⟩
  case inIdle => exact waits (by simpa [hactive, hstage, hstart] using hrow) (.inl rfl)
  case noRequest => exact waits (by simpa [hactive, hstage, hempty, hvalid] using hrow) (.inr (.inl rfl))
  case notReady => exact waits (by simpa [hactive, hstage, hempty, hvalid, hready] using hrow) (.inr (.inr rfl))

end Sys2Proof.Machine

/-! PROOFS. The pointer synchronisers and the gray code (R13, R136, R137, R141, R142): the shift of every step, the delay
line, neighbours' codes. O12, O13, O14. -/
namespace Sys2Proof

/-! ### The gray codes of neighbours (R142) -/

/-- R142: the increment flips the ones at the end of `b` and the zero before them; at the wrap, all its ones. -/
theorem exists_xor_succ_eq_ones {n b : Nat} (h : b < 2 ^ (n + 1)) :
    ∃ k, k ≤ n ∧ b ^^^ (b + 1) % 2 ^ (n + 1) = 2 ^ (k + 1) - 1 := by
  induction n generalizing b with
  | zero =>
    refine ⟨0, Nat.le_refl 0, ?_⟩
    match b, h with
    | 0, _ => rfl
    | 1, _ => rfl
  | succ n ih =>
    obtain ⟨c, rfl | rfl⟩ := Nat.even_or_odd' b
    · have hlast : 2 * c ^^^ (2 * c + 1) = 2 * (c ^^^ c) + 1 := Nat.xor_bit false c true c
      refine ⟨0, Nat.zero_le _, ?_⟩
      rw [Nat.mod_eq_of_lt (by omega), hlast, Nat.xor_self]
      rfl
    · obtain ⟨k, hk, hones⟩ := ih (b := c) (by omega)
      have hlast (m : Nat) : (2 * c + 1) ^^^ 2 * m = 2 * (c ^^^ m) + 1 := Nat.xor_bit true c false m
      refine ⟨k + 1, Nat.succ_le_succ hk, ?_⟩
      rw [show 2 * c + 1 + 1 = 2 * (c + 1) by omega, Nat.pow_succ', Nat.mul_mod_mul_left, hlast, hones]
      have := Nat.two_pow_pos (k + 1)
      omega

theorem gray_xor (x y : Ptr) : gray x ^^^ gray y = gray (x ^^^ y) := by
  simp only [gray, BitVec.ushiftRight_xor_distrib]
  ac_rfl

/-- R11: the code of a run of ones is its highest bit. -/
theorem gray_ones {x : Ptr} {k : Nat} (h : x.toNat = 2 ^ (k + 1) - 1) : gray x = (1 : Ptr) <<< k := by
  have bit (j : Nat) : x.getLsbD j = decide (j < k + 1) := by rw [BitVec.getLsbD, h, Nat.testBit_two_pow_sub_one]
  refine BitVec.eq_of_getLsbD_eq fun i hi => ?_
  simp only [gray, BitVec.getLsbD_xor, BitVec.getLsbD_ushiftRight, BitVec.getLsbD_shiftLeft, bit]
  grind

/-- Settles O14: codes are linear, so the difference of the neighbours' codes is the code of what the increment flips. -/
theorem grayCodeChangesOneBit : Obligations.GrayCodeChangesOneBit := by
  intro p b h
  have hinc : (p.inc b).toNat = (b.toNat + 1) % p.depth := Params.toNat_inc_eq_mod h
  obtain ⟨k, hk, hones⟩ := exists_xor_succ_eq_ones (n := p.awMinusOne.val) h
  have hflip : (b ^^^ p.inc b).toNat = 2 ^ (k + 1) - 1 := by
    rw [BitVec.toNat_xor, hinc]
    exact hones
  exact ⟨bin_gray b, gray_lt_depth h, hinc, k, Nat.lt_succ_of_le hk, (gray_xor b (p.inc b)).trans (gray_ones hflip)⟩

end Sys2Proof

namespace Sys2Proof.Machine

open Sys2Proof

/-! ### The delay line (R141) -/

theorem Sync.length_toList (q : Sync) : q.toList.length = q.stages.length + 1 := by simp [Sync.toList]

/-- Settles O13, by induction on the samples: a shift takes the first of them and drops the oldest value. -/
theorem synchroniserIsADelayLine : Obligations.SynchroniserIsADelayLine := by
  intro q gs
  induction gs generalizing q with
  | nil => rw [List.foldl_nil, List.reverse_nil, List.nil_append, ← Sync.length_toList, List.take_length]
  | cons g gs ih =>
    have hdrop : q.toList.dropLast = q.toList.take q.stages.length := by
      rw [List.dropLast_eq_take, Sync.length_toList, Nat.add_sub_cancel]
    rw [List.foldl_cons, ih, Sync.length_shift, Sync.toList_shift, hdrop, ← List.take_succ_cons, List.reverse_cons,
      List.append_assoc, List.singleton_append, List.take_append, List.take_append, List.take_take,
      Nat.min_eq_left (Nat.sub_le _ _)]

/-! ### The shift of every step (R136, R137) -/

/-- What an R edge's sample and shift read is in `u` what it is in `s`. -/
structure SameReadShift (s u : State) : Prop where
  stimulus : u.stimulus = s.stimulus
  wq : u.wq = s.wq
  wgray : u.wgray = s.wgray
  wgPrev : u.wgPrev = s.wgPrev
  wgChanged : u.wgChanged = s.wgChanged

theorem SameReadShift.finishR_wq {s u : State} {d : Draw} {rest : List Stimulus} (h : SameReadShift s u)
    (hs : s.stimulus = .rclk d :: rest) : (finishR u).wq = s.wq.shift (sample s.wgChanged d s.wgray s.wgPrev) := by
  rw [finishR_of_rclk (h.stimulus.trans hs), h.wq, h.wgray, h.wgPrev, h.wgChanged]

/-- R137, R280: every row of an R edge ends in the shift and leaves alone what it reads. -/
theorem rEdge_shifts {s t : State} (h : rEdge s = .next t) :
    (rRow s = none ∧ t = rEdgeInReset s) ∨ ∃ u, t = finishR u ∧ SameReadShift s u := by
  rcases rEdge_next h with hreset | ⟨-, -, -, rfl⟩ | ⟨-, -, -, rfl⟩ | ⟨-, -, rfl⟩ | ⟨b, c, -, -, -, -, -, -, rfl⟩ | ⟨-, rfl⟩
  case inl => exact .inl hreset
  all_goals refine .inr ⟨_, rfl, ?_⟩
  case inr.inl => unfold advanceTx; split <;> constructor <;> rfl
  case inr.inr.inr.inl =>
    rcases acceptRequest_cases (clearPulses s) with ⟨id, P, -, e⟩ | e <;> rw [e] <;> constructor <;> rfl
  case inr.inr.inr.inr.inl =>
    obtain ⟨_, _, _, _, _, _, _, _, _, _, _, _, _, _, e⟩ := asmEffect_frame b (clearPulses s) c
    rw [e]
    constructor <;> rfl
  all_goals constructor <;> rfl

theorem wEdge_wq {s t : State} (h : wEdge s = .next t) : t.wq = s.wq := by
  rcases wEdge_next h with ⟨-, rfl⟩ | ⟨-, -, -, rfl⟩ | ⟨-, rfl⟩ <;> simp

/-- R136: every row of a W step ends in the shift. -/
theorem wEdge_rq {s t : State} {d : Draw} {rest : List Stimulus} (h : WStepAt s d rest) (ht : wEdge s = .next t) :
    t.rq = s.rq.shift (sample s.rgChanged d s.rgray s.rgPrev) := by
  rcases wEdge_next ht with ⟨hrow, -⟩ | ⟨-, -, -, rfl⟩ | ⟨-, rfl⟩
  · rw [writeStepFollowsTheEnables s d rest h] at hrow
    cases hrow
  · rw [finishW_of_wclk (s := pushByte s.ports.wrData s) h.1]
    rfl
  · rw [finishW_of_wclk h.1]

/-- R137: every row of an R step ends in the shift. -/
theorem rEdge_wq {s t : State} {d : Draw} {rest : List Stimulus} (h : RStepAt s d rest) (ht : rEdge s = .next t) :
    t.wq = s.wq.shift (sample s.wgChanged d s.wgray s.wgPrev) := by
  rcases rEdge_shifts ht with ⟨hrow, -⟩ | ⟨u, rfl, hu⟩
  · rw [rRow_of_rStepAt h] at hrow
    cases hrow
  · exact hu.finishR_wq h.1

theorem rEdge_rq {s t : State} (h : rEdge s = .next t) : t.rq = s.rq := by
  rcases rEdge_writeSide h with ⟨-, rfl⟩ | ⟨u, rfl, hu, -⟩
  · rfl
  · exact (finishR_rq u).trans hu.rq

/-- Settles O12: the two draws of a changed pointer, then the shift at the end of either domain's rows. -/
theorem synchronisersShiftAtEveryStep : Obligations.SynchronisersShiftAtEveryStep := by
  refine ⟨fun d g gPrev => by cases d <;> rfl, fun g gPrev => ⟨rfl, rfl⟩, fun s t d rest ht => ⟨fun h => ?wStep, fun h => ?rStep⟩⟩
  case wStep =>
    rw [step_of_wclk h.1] at ht
    rw [wEdge_rq h ht, Sync.toList_shift]
    exact ⟨rfl, wEdge_wq ht⟩
  case rStep =>
    rw [step_of_rclk h.1] at ht
    rw [rEdge_wq h ht, Sync.toList_shift]
    exact ⟨rfl, rEdge_rq ht⟩

end Sys2Proof.Machine

/-! PROOFS. PUSH and POP (R131, R135): their whole next states. O9, O11. -/
namespace Sys2Proof.Machine

open Sys2Proof

/-- Settles O9: `pushByte`, then the edge's own update. -/
theorem pushStoresTheByte : Obligations.PushStoresTheByte := by
  intro s d rest h hen hfull hlt
  have hrow : wRow s = some .push := by simpa [hen, hfull] using writeStepFollowsTheEnables s d rest h
  refine ⟨_, ?exec, rfl, fun a => memRead_memWrite s.mem s.wbin.toNat a s.ports.wrData⟩
  rw [exec_eq_wEdge hrow, wEdge_of_push hrow hlt, finishW_eq_afterWEdge (s := pushByte s.ports.wrData s) h.1]
  rfl

/-- R135, R137: the pointer writes of a POP and the edge's shift together. -/
theorem finishR_advanceRead {u : State} {d : Draw} {rest : List Stimulus} (h : u.stimulus = .rclk d :: rest) :
    finishR (advanceRead u) =
      { u with
        rbin := u.par.inc u.rbin
        rgray := gray (u.par.inc u.rbin)
        rgPrev := u.rgray
        rgChanged := true
        wq := u.wq.shift (sample u.wgChanged d u.wgray u.wgPrev)
        wgChanged := false
        stimulus := rest } :=
  finishR_of_rclk (s := advanceRead u) h

/-- Settles O11: the popped byte's case is selected in the same step, and its row leaves the pointers and the write side
alone. -/
theorem popRunsTheAssemblerRow : Obligations.PopRunsTheAssemblerRow := by
  intro s d rest b c h hactive hstage hempty hlt hread hcase
  have hrow : rRow s = some .pop := by simpa [hactive, hstage, hempty] using rRow_of_rStepAt h
  have hsel : asmSelects (clearPulses s) c b = true := by
    have hcase' : asmCase (asmSignals (clearPulses s)) b = some c := hcase
    simp [asmSelects, popAllowed, hactive, hstage, hcase']
  have hexec := exec_asmRow c b (clearPulses s) hsel
  have hpop := (exec_eq_rEdge hrow).trans (rEdge_of_pop hrow (fifoRead_ok.2 ⟨hlt, hread⟩) hcase)
  obtain ⟨_, _, _, _, _, _, _, _, _, _, _, _, _, _, e⟩ := asmEffect_frame b (clearPulses s) c
  have hstim : (asmEffect b (clearPulses s) c).stimulus = .rclk d :: rest := by rw [e]; exact h.1
  rw [finishR_advanceRead hstim, e] at hpop
  rw [e] at hexec
  exact ⟨_, _, hexec, hpop, rfl, rfl, rfl, rfl, fun _ => rfl, rfl, rfl, rfl⟩

end Sys2Proof.Machine

/-! PROOFS. A popped byte read forward: in every state of the assembler's invariant it has a case (R160), the row of that case
and the row of a completed frame are selected and have one next state, and no step faults. O51, O16 to O20. -/
namespace Sys2Proof.Machine

open Sys2Proof

/-! ### Every popped byte has a case -/

/-- R33, R160: the position of a candidate frame is one of the length byte's, the message id's, the payload's and the
checksum's. -/
theorem InFrame.exists_asmCase {n : BitVec 5} {buf : Vector Byte 21} (h : InFrame n.toNat buf) (b : Byte) :
    ∃ c, asmCase ⟨true, n, buf[1]⟩ b = some c := by
  obtain ⟨hpos, hmax, -, -, hend, -⟩ := h
  obtain ⟨-, -, resync, length, lengthInvalid, messageId, payloadByte, checksumByte⟩ :=
    asmCase_of_conditions ⟨true, n, buf[1]⟩ b
  by_cases hb : b = SYNC
  · exact ⟨_, resync rfl hb⟩
  by_cases h1 : n = 1
  · rcases Nat.lt_or_ge MAX_PAYLOAD b.toNat with hlong | hlegal
    · exact ⟨_, lengthInvalid rfl hb h1 hlong⟩
    · exact ⟨_, length rfl hb h1 hlegal⟩
  by_cases h2 : n = 2
  · exact ⟨_, messageId rfl hb h2⟩
  have h3 : 3 ≤ n.toNat := by bv_omega
  rcases Nat.lt_or_eq_of_le (hend h3) with hpayload | hlast
  · exact ⟨_, payloadByte rfl hb h3 hmax hpayload⟩
  · exact ⟨_, checksumByte rfl hb h3 hmax hlast⟩

theorem AssemblerInv.exists_asmCase {s : State} (h : AssemblerInv s) (b : Byte) :
    ∃ c, asmCase (asmSignals s) b = some c := by
  obtain ⟨-, hframe⟩ := assemblerInv_iff.1 h
  cases hin : s.faIn with
  | false =>
    obtain ⟨discard, sync, -⟩ := asmCase_of_conditions (asmSignals s) b
    by_cases hb : b = SYNC
    · exact ⟨_, sync hin hb⟩
    · exact ⟨_, discard hin hb⟩
  | true =>
    rw [asmSignals, hin]
    exact (hframe hin).exists_asmCase b

/-! ### No step faults -/

/-- R10, R27: PUSH writes inside the storage, so every W edge has a next state. -/
theorem exists_next_wEdge {s : State} (h : FifoClauses s) : ∃ t, wEdge s = .next t := by
  cases hrow : wRow s with
  | none => exact ⟨_, wEdge_of_no_row hrow⟩
  | some i =>
    rcases wRow_cases hrow with ⟨rfl, -⟩ | ⟨rfl, -⟩ | ⟨rfl, -⟩
    · exact ⟨_, wEdge_of_push hrow h.wbin_lt⟩
    · exact ⟨_, wEdge_of_no_push (.inl hrow)⟩
    · exact ⟨_, wEdge_of_no_push (.inr hrow)⟩

/-- R38: while transmitting, the index is inside the buffer, no command's frame being longer than it. -/
theorem TransmitInv.txIdx_lt {s : State} (h : TransmitInv s) (hactive : s.txActive = true) : s.txIdx.toNat < TXB_SIZE := by
  obtain ⟨hsend, -⟩ := h
  obtain ⟨hidx, hlen, -⟩ := hsend hactive
  simp only [List.mem_cons, List.not_mem_nil, or_false] at hlen
  rw [BitVec.lt_def] at hidx
  show s.txIdx.toNat < 13
  omega

/-- R38, R160: TX_BYTE and POP are the rows that could fault; every other row always has a next state. -/
theorem exists_next_rEdge {s : State} (hf : FifoClauses s) (ha : AssemblerInv s) (ht : TransmitInv s) :
    ∃ t, rEdge s = .next t := by
  cases hrow : rRow s with
  | none => exact ⟨_, rEdge_of_no_row hrow⟩
  | some i =>
    rcases rRow_cases hrow with ⟨rfl, hactive, -⟩ | ⟨rfl, -⟩ | ⟨rfl, -⟩ | ⟨rfl, -⟩ | ⟨rfl, -⟩ | ⟨rfl, -⟩ | ⟨rfl, -⟩ | ⟨rfl, -⟩
    case inl => exact ⟨_, rEdge_of_txByte hrow (ht.txIdx_lt hactive)⟩
    case inr.inr.inl => exact ⟨_, rEdge_of_start hrow⟩
    case inr.inr.inr.inr.inl => exact ⟨_, rEdge_of_hostReq hrow⟩
    case inr.inr.inr.inr.inr.inl =>
      obtain ⟨c, hc⟩ := ha.exists_asmCase (memRead s.mem s.rbin.toNat)
      exact ⟨_, rEdge_of_pop hrow (fifoRead_ok.2 ⟨hf.rbin_lt, rfl⟩) hc⟩
    all_goals exact ⟨_, rEdge_of_wait (by simp [hrow])⟩

/-- Settles O51: either edge has a next state, and no other event can fault. -/
theorem noStepFaults : Obligations.NoStepFaults := by
  intro s f hfifo hasm htx hfault
  have hclauses := fifoInv_iff.1 hfifo
  match hs : s.stimulus with
  | [] => rw [step_of_no_event hs] at hfault; cases hfault
  | .wclk d :: rest =>
    obtain ⟨t, ht⟩ := exists_next_wEdge hclauses
    rw [step_of_wclk hs, ht] at hfault
    cases hfault
  | .rclk d :: rest =>
    obtain ⟨t, ht⟩ := exists_next_rEdge hclauses hasm htx
    rw [step_of_rclk hs, ht] at hfault
    cases hfault
  | .producer en b :: rest => rw [step_of_producer hs] at hfault; cases hfault
  | .transport ready :: rest => rw [step_of_transport hs] at hfault; cases hfault
  | .host p :: rest => rw [step_of_host hs] at hfault; cases hfault
  | .reset rstN :: rest => rw [step_of_reset hs] at hfault; cases hfault
  | .outside v :: rest => rw [step_of_outside hs] at hfault; cases hfault

/-! ### The assembler rows -/

/-- R160: the row of the case a byte takes is the one selected. -/
theorem exec_asmRow_of_case {s : State} {b : Byte} {c : AsmCase} (hpop : popAllowed s = true)
    (hc : asmCase (asmSignals s) b = some c) : exec (c.row b) s = .next (asmEffect b s c) := by
  refine exec_asmRow c b s ?_
  simp [asmSelects, hpop, hc]

/-- Inside the bounds the two writes of a vector are one. -/
theorem setIfInBounds_eq_set {α : Type} {n i : Nat} (v : Vector α n) (x : α) (h : i < n) :
    v.setIfInBounds i x = v.set i x := by
  ext j hj
  rw [Vector.getElem_setIfInBounds, Vector.getElem_set]

/-- Settles O16, by the two cases of hunting. -/
theorem huntingRows : Obligations.HuntingRows := by
  intro s hpop hin
  constructor
  · intro b hb
    obtain ⟨huntDiscard, -⟩ := asmCase_of_conditions (asmSignals s) b
    exact exec_asmRow_of_case hpop (huntDiscard hin hb)
  · obtain ⟨-, huntSync, -⟩ := asmCase_of_conditions (asmSignals s) SYNC
    rw [← setIfInBounds_eq_set]
    exact exec_asmRow_of_case hpop (huntSync hin rfl)

/-- Settles O17: a sync inside a frame takes its case before the position is looked at. -/
theorem resyncAtAnyPosition : Obligations.ResyncAtAnyPosition := by
  intro s hpop hin
  obtain ⟨-, -, resync, -⟩ := asmCase_of_conditions (asmSignals s) SYNC
  rw [← setIfInBounds_eq_set]
  exact exec_asmRow_of_case hpop (resync hin rfl)

/-- Settles O18, by the two cases of the byte at position 1. -/
theorem lengthRows : Obligations.LengthRows := by
  intro s b hpop hin hpos hb
  obtain ⟨-, -, -, length, lengthInvalid, -⟩ := asmCase_of_conditions (asmSignals s) b
  constructor
  · intro hlegal
    rw [← setIfInBounds_eq_set]
    exact exec_asmRow_of_case hpop (length hin hb hpos hlegal)
  · intro hlong
    exact exec_asmRow_of_case hpop (lengthInvalid hin hb hpos hlong)

/-- Settles O19, by the cases of position 2 and of the positions before the checksum's. -/
theorem messageIdAndPayloadRows : Obligations.MessageIdAndPayloadRows := by
  intro s b hpop hin hb
  obtain ⟨-, -, -, -, -, messageId, payloadByte, -⟩ := asmCase_of_conditions (asmSignals s) b
  constructor
  · intro hpos
    rw [← setIfInBounds_eq_set]
    exact exec_asmRow_of_case hpop (messageId hin hb hpos)
  · intro hlo hroom hhi
    exact exec_asmRow_of_case hpop (payloadByte hin hb hlo hhi hroom)

/-! ### The checksum byte -/

/-- R220, R221: the row of a completed frame's class is the one selected, and it is the dispatch of the frame. -/
theorem exec_frameRow_of_class {s : State} {F : List Byte} (hpop : popAllowed s = true) (hshape : frameShape F = true) :
    exec ((frameClass (frameSignals s) F).row F) s = .next (dispatch F s) := by
  rw [dispatch_eq]
  refine exec_frameRow _ F s ?_
  simp [frameSelects, hpop, hshape]

/-- R96, R168: a frame's checksum matches exactly if the XOR of the bytes before the last equals it. -/
theorem checksumOk_concat (T : List Byte) (b : Byte) : checksumOk (T ++ [b]) = true ↔ xorAll T = b := by
  rw [checksumOk, xorAll_concat, beq_iff_eq]
  exact BitVec.xor_eq_zero_iff

theorem frameClass_concat (sig : FrameSignals) (T : List Byte) (b : Byte) :
    frameClass sig (T ++ [b]) = if xorAll T = b then classify sig (T ++ [b]) else .checksumError :=
  if_congr (checksumOk_concat T b) rfl rfl

/-- R100, R168: the bytes before the checksum and the checksum are as many as the length byte says. -/
theorem frameShape_candidate {s : State} (b : Byte) (hlo : 3 ≤ s.faPos.toNat) (hhi : s.faPos.toNat ≤ 20)
    (hlast : s.faPos.toNat = s.faBuf[1].toNat + 3) : frameShape (candidate b s) = true := by
  have hlength : (candidate b s).length = s.faPos.toNat + 1 := by
    simp only [candidate, List.length_append, List.length_take, Vector.length_toList, List.length_singleton]
    omega
  have hcount : frameByte (candidate b s) 1 = s.faBuf[1] := by
    rw [frameByte, candidate, List.getD_append _ _ _ _ (by simp; omega), List.getD_eq_getElem _ _ (by simp; omega),
      List.getElem_take, Vector.getElem_toList]
  have hmax : s.faBuf[1].toNat ≤ 17 := by omega
  simpa [frameShape, hlength, hcount, hmax] using hlast

/-- Settles O20: the row of the byte's case is the dispatch of the candidate from the state that hunts again, and so is the
row of the candidate's class, which the checksum picks. -/
theorem checksumByteRunsTheFrameRow : Obligations.ChecksumByteRunsTheFrameRow := by
  rintro s b F s' hpop hin hb hlo hhi hlast rfl hs'
  have hpop' : popAllowed s' = true := by rw [hs']; exact hpop
  have hsignals : frameSignals s' = frameSignals s := by rw [hs']; rfl
  obtain ⟨-, -, -, -, -, -, -, checksumByte⟩ := asmCase_of_conditions (asmSignals s) b
  have hexec : exec (.checksumByte b) s = .next (dispatch (candidate b s) s') := by
    rw [hs']
    exact exec_asmRow_of_case hpop (checksumByte hin hb hlo hhi hlast)
  have hrow {c : FrameClass} (hc : frameClass (frameSignals s) (candidate b s) = c) :
      exec (c.row (candidate b s)) s' = .next (dispatch (candidate b s) s') := by
    rw [← hc, ← hsignals]
    exact exec_frameRow_of_class hpop' (frameShape_candidate b hlo hhi hlast)
  exact ⟨_, hexec, fun hsum => hrow ((frameClass_concat _ _ b).trans (if_pos hsum)),
    fun hsum => hrow (c := .checksumError) ((frameClass_concat _ _ b).trans (if_neg hsum))⟩

end Sys2Proof.Machine

/-! PROOFS. The assembler fed with a whole frame (R160, R174, R175): after each of its bytes but the last it is inside the
frame those bytes begin, as `inFrame` says, and the last byte dispatches it. O21. -/
namespace Sys2Proof.Machine

open Sys2Proof

/-! ### The state inside a frame -/

section
variable {T : List Byte} {b : Byte} {s : State}

theorem toNat_inFrame_faPos (hT : T.length < 21) : (inFrame T s).faPos.toNat = T.length :=
  Nat.mod_eq_of_lt (show T.length < 32 by omega)

theorem getElem_inFrame_faBuf {i : Nat} (hi : i < 21) :
    (inFrame T s).faBuf[i] = if i < T.length then frameByte T i else s.faBuf[i] := by
  simp [inFrame]

/-- A byte stored at the position is the frame's next byte. -/
theorem setIfInBounds_inFrame_faBuf (hT : T.length < 21) :
    (inFrame T s).faBuf.setIfInBounds (inFrame T s).faPos.toNat b = (inFrame (T ++ [b]) s).faBuf := by
  ext i hi
  rw [Vector.getElem_setIfInBounds, toNat_inFrame_faPos hT, getElem_inFrame_faBuf, getElem_inFrame_faBuf,
    List.length_append, List.length_singleton]
  rcases Nat.lt_trichotomy i T.length with hlt | rfl | hgt
  · simp [frameByte, hlt, hlt.ne', Nat.lt_succ_of_lt hlt]
  · simp [frameByte]
  · rw [if_neg hgt.ne, if_neg (by omega), if_neg (by omega)]

/-- R168: the candidate is the frame's bytes and the checksum, whatever else the buffer holds. -/
theorem candidate_inFrame (hT : T.length < 21) : candidate b (inFrame T s) = T ++ [b] := by
  rw [candidate, toNat_inFrame_faPos hT]
  congr 1
  refine List.ext_getElem (by simp; omega) fun i _ hi => ?_
  rw [List.getElem_take, Vector.getElem_toList, getElem_inFrame_faBuf, if_pos hi, frameByte, List.getD_eq_getElem _ _ hi]

/-- R162: a sync met while hunting begins a frame. -/
theorem onHuntSync_eq_inFrame (s : State) : onHuntSync s = inFrame [SYNC] s := by
  have hbuf : s.faBuf.setIfInBounds 0 SYNC = (inFrame [SYNC] s).faBuf := by
    ext i hi
    rw [Vector.getElem_setIfInBounds, getElem_inFrame_faBuf]
    cases i <;> simp [frameByte]
  rw [onHuntSync, storeFaBuf, hbuf]
  rfl

/-! ### A byte inside a frame -/

/-- R164, R166, R167: the three cases that go on with a frame, and the position of each. -/
def GoesOn (c : AsmCase) (n : Nat) : Prop := c = .length ∧ n = 1 ∨ c = .messageId ∧ n = 2 ∨ c = .payloadByte

/-- R164, R166, R167: each of them stores the byte at the position and advances it. -/
theorem asmEffect_of_goesOn {c : AsmCase} (h : GoesOn c s.faPos.toNat) :
    asmEffect b s c = { storeFaBuf s.faPos.toNat b s with faPos := s.faPos + 1 } := by
  rcases h with ⟨rfl, hpos⟩ | ⟨rfl, hpos⟩ | rfl
  · rw [show s.faPos = 1 from BitVec.eq_of_toNat_eq hpos]; rfl
  · rw [show s.faPos = 2 from BitVec.eq_of_toNat_eq hpos]; rfl
  · rfl

theorem asmEffect_inFrame {c : AsmCase} (hT : T.length < 21) (h : GoesOn c T.length) :
    asmEffect b (inFrame T s) c = inFrame (T ++ [b]) s := by
  have hpos : (inFrame T s).faPos + 1 = (inFrame (T ++ [b]) s).faPos :=
    calc BitVec.ofNat 5 T.length + 1
      _ = BitVec.ofNat 5 (T.length + 1) := (BitVec.ofNat_add T.length 1).symm
      _ = BitVec.ofNat 5 (T ++ [b]).length := by rw [List.length_append, List.length_singleton]
  rw [← toNat_inFrame_faPos (s := s) hT] at h
  rw [asmEffect_of_goesOn h, storeFaBuf, setIfInBounds_inFrame_faBuf hT, hpos]
  rfl

end

/-! ### Where in a frame a byte stands -/

theorem candidateFrame_iff {F : List Byte} :
    candidateFrame F = true ↔
      F.length = (frameByte F 1).toNat + 4 ∧ (frameByte F 1).toNat ≤ MAX_PAYLOAD ∧ frameByte F 0 = SYNC ∧ SYNC ∉ F.tail := by
  simp [candidateFrame, frameShape, and_assoc]

section
variable {T rest : List Byte} {b b' : Byte}

/-- R100, R101, R107: of a byte inside a frame, that it is no sync, its place, and the length byte, itself or before it. -/
theorem candidateFrame_split (hT : T ≠ []) (hF : candidateFrame (T ++ b :: rest) = true) (s : State) :
    b ≠ SYNC ∧ ∃ L : Byte, L.toNat ≤ 17 ∧ T.length + rest.length = L.toNat + 3 ∧
      (T.length = 1 → b = L) ∧ (2 ≤ T.length → (asmSignals (inFrame T s)).faLen = L) := by
  obtain ⟨hlength, hmax, -, hsync⟩ := candidateFrame_iff.1 hF
  rw [List.tail_append_of_ne_nil hT] at hsync
  rw [List.length_append, List.length_cons] at hlength
  refine ⟨fun h => hsync (by simp [h]), _, hmax, by omega, fun h1 => ?_, fun h2 => ?_⟩
  · simp [frameByte, h1]
  · have h2' : 1 < T.length := h2
    rw [asmSignals, getElem_inFrame_faBuf, if_pos h2', frameByte, frameByte, List.getD_append _ _ _ _ h2']

/-- R164, R166, R167: a byte inside a frame that is not its last. -/
theorem exists_asmCase_of_more (hT : T ≠ []) (hF : candidateFrame (T ++ b :: b' :: rest) = true) (s : State) :
    ∃ c, asmCase (asmSignals (inFrame T s)) b = some c ∧ GoesOn c T.length := by
  obtain ⟨hb, L, hmax, hlength, hhere, hbefore⟩ := candidateFrame_split hT hF s
  rw [List.length_cons] at hlength
  have hpos : (asmSignals (inFrame T s)).faPos.toNat = T.length :=
    toNat_inFrame_faPos (s := s) (by omega)
  have hstart : 1 ≤ T.length := List.length_pos_of_ne_nil hT
  obtain ⟨-, -, -, length, -, messageId, payloadByte, -⟩ := asmCase_of_conditions (asmSignals (inFrame T s)) b
  rcases (by omega : T.length = 1 ∨ T.length = 2 ∨ 3 ≤ T.length) with h1 | h2 | h3
  · exact ⟨_, length rfl hb (BitVec.eq_of_toNat_eq (hpos.trans h1)) (hhere h1 ▸ hmax), .inl ⟨rfl, h1⟩⟩
  · exact ⟨_, messageId rfl hb (BitVec.eq_of_toNat_eq (hpos.trans h2)), .inr (.inl ⟨rfl, h2⟩)⟩
  · rw [hpos, hbefore (by omega)] at payloadByte
    exact ⟨_, payloadByte rfl hb h3 (show T.length ≤ 20 by omega) (by omega), .inr (.inr rfl)⟩

/-- R168: the last byte of a frame. -/
theorem asmCase_of_last (hT : T ≠ []) (hF : candidateFrame (T ++ [b]) = true) (s : State) :
    asmCase (asmSignals (inFrame T s)) b = some .checksumByte := by
  obtain ⟨hb, L, hmax, hlength, -, hbefore⟩ := candidateFrame_split hT hF s
  rw [List.length_nil] at hlength
  have hpos : (asmSignals (inFrame T s)).faPos.toNat = T.length :=
    toNat_inFrame_faPos (s := s) (by omega)
  obtain ⟨-, -, -, -, -, -, -, checksumByte⟩ := asmCase_of_conditions (asmSignals (inFrame T s)) b
  rw [hpos, hbefore (by omega)] at checksumByte
  exact checksumByte rfl hb (by omega) (show T.length ≤ 20 by omega) hlength

/-! ### Feeding bytes -/

/-- The state that hunts again, the frame `F` in the buffer (R168). -/
def afterFrame (F : List Byte) (s : State) : State :=
  { s with faBuf := (inFrame F s).faBuf, faIn := false, faPos := 0 }

theorem assemble_of_more (hT : T ≠ []) (hF : candidateFrame (T ++ b :: b' :: rest) = true) (s : State) :
    assemble b (inFrame T s) = some (inFrame (T ++ [b]) s) := by
  obtain ⟨-, L, hmax, hlength, -⟩ := candidateFrame_split hT hF s
  obtain ⟨c, hc, hgoesOn⟩ := exists_asmCase_of_more hT hF s
  rw [assemble_eq, hc, Option.map_some, asmEffect_inFrame (by omega) hgoesOn]

theorem assemble_of_last (hT : T ≠ []) (hF : candidateFrame (T ++ [b]) = true) (s : State) :
    assemble b (inFrame T s) = some (dispatch (T ++ [b]) (afterFrame (T ++ [b]) s)) := by
  obtain ⟨-, L, hmax, hlength, -⟩ := candidateFrame_split hT hF s
  have hlt : T.length < 21 := by omega
  rw [assemble_eq, asmCase_of_last hT hF s, Option.map_some, asmEffect, onChecksumByte, candidate_inFrame hlt, storeFaBuf,
    setIfInBounds_inFrame_faBuf hlt]
  rfl

theorem feed_cons {s t : State} (h : assemble b s = some t) (bs : List Byte) : feed (b :: bs) s = feed bs t := by
  rw [feed, h]

/-- R161: bytes that are no sync change nothing while hunting. -/
theorem feed_noise_append {s : State} (hin : s.faIn = false) {noise : List Byte} (hnoise : ∀ b ∈ noise, b ≠ SYNC)
    (F : List Byte) : feed (noise ++ F) s = feed F s := by
  induction noise with
  | nil => rfl
  | cons b noise ih =>
    obtain ⟨hb, hrest⟩ := List.forall_mem_cons.1 hnoise
    obtain ⟨huntDiscard, -⟩ := asmCase_of_conditions (asmSignals s) b
    have hsame : assemble b s = some s := by rw [assemble_eq, huntDiscard hin hb]; rfl
    rw [List.cons_append, feed_cons hsame, ih hrest]

/-- R160, R168: the rest of a frame is stored byte by byte, and its last byte dispatches the whole. -/
theorem feed_inFrame (hT : T ≠ []) (hrest : rest ≠ []) (hF : candidateFrame (T ++ rest) = true) (s : State) :
    feed rest (inFrame T s) = some (dispatch (T ++ rest) (afterFrame (T ++ rest) s)) := by
  induction rest generalizing T with
  | nil => exact absurd rfl hrest
  | cons b rest ih =>
    cases rest with
    | nil => exact feed_cons (assemble_of_last hT hF s) []
    | cons b' rest =>
      rw [feed_cons (assemble_of_more hT hF s)]
      rw [List.append_cons T b (b' :: rest)] at hF ⊢
      exact ih (by simp) (by simp) hF

/-- R162: a frame begins with its sync, and bytes follow it. -/
theorem exists_eq_sync_cons {F : List Byte} (hF : candidateFrame F = true) : ∃ rest, rest ≠ [] ∧ F = SYNC :: rest := by
  obtain ⟨hlength, -, hfirst, -⟩ := candidateFrame_iff.1 hF
  match F, hlength, hfirst with
  | _ :: b :: rest, _, rfl => exact ⟨b :: rest, List.cons_ne_nil b rest, rfl⟩

end

/-- Settles O21: noise leaves the state alone, the sync begins the frame, and the rest of it leads to its dispatch. -/
theorem embeddedFrameIsDispatchedOnce : Obligations.EmbeddedFrameIsDispatchedOnce := by
  intro s noise F hin hnoise hF
  refine ⟨(inFrame F s).faBuf, fun i hi => ?buffer, ?feed⟩
  case buffer =>
    obtain ⟨hlength, hmax, -⟩ := candidateFrame_iff.1 hF
    have hmax' : (frameByte F 1).toNat ≤ 17 := hmax
    have hi' : i < 21 := by omega
    rw [Vector.getElem?_eq_getElem hi', getElem_inFrame_faBuf, if_pos hi, List.getElem?_eq_getElem hi, frameByte,
      List.getD_eq_getElem _ _ hi]
  case feed =>
    obtain ⟨rest, hrest, rfl⟩ := exists_eq_sync_cons hF
    obtain ⟨-, huntSync, -⟩ := asmCase_of_conditions (asmSignals s) SYNC
    have hsync : assemble SYNC s = some (inFrame [SYNC] s) := by
      rw [assemble_eq, huntSync hin rfl, Option.map_some, asmEffect, onHuntSync_eq_inFrame]
    rw [feed_noise_append hin hnoise, feed_cons hsync]
    exact feed_inFrame (by simp) hrest hF s

end Sys2Proof.Machine

/-! PROOFS. The encoder's frames (R191, R195 to R206): the bytes of a built frame, and the frame of each outbound row. O3, O27,
O28. -/
namespace Sys2Proof.Machine

open Sys2Proof

/-! ### The bytes of a built frame -/

theorem build_eq_cons (id : Byte) (P : List Byte) :
    build id P = SYNC :: BitVec.ofNat 8 P.length :: id ::
      (P ++ [xorAll (SYNC :: BitVec.ofNat 8 P.length :: id :: P)]) := rfl

theorem take_build (id : Byte) (P : List Byte) :
    (build id P).take (P.length + 3) = SYNC :: BitVec.ofNat 8 P.length :: id :: P := by
  simp [build_eq_cons]

/-- R191: the payload stands unescaped after the message id. -/
theorem getElem?_build_payload (id : Byte) {P : List Byte} {i : Nat} (hi : i < P.length) :
    (build id P)[3 + i]? = P[i]? :=
  calc (build id P)[3 + i]?
    _ = (P ++ [xorAll (SYNC :: BitVec.ofNat 8 P.length :: id :: P)])[i]? := by rw [Nat.add_comm 3 i]; rfl
    _ = P[i]? := List.getElem?_append_left hi

/-- R191: the last byte is the XOR of all before it. -/
theorem frameByte_build_checksum (id : Byte) (P : List Byte) :
    frameByte (build id P) (P.length + 3) = xorAll ((build id P).take (P.length + 3)) := by
  rw [take_build, build_eq_cons, frameByte]
  simp

theorem checksumOk_build (id : Byte) (P : List Byte) : checksumOk (build id P) = true :=
  beq_iff_eq.2 (xorAll_build id P)

/-- Settles O3: the header by the definition, the payload, the checksum and the whole frame's XOR by their lemmas. -/
theorem builtFrameBytes : Obligations.BuiltFrameBytes :=
  fun id P _ => ⟨length_build id P, rfl, rfl, rfl, fun _ => getElem?_build_payload id, frameByte_build_checksum id P,
    checksumOk_build id P⟩

/-! ### The frame of an outbound row -/

/-- The frame on the channel with its checksum written out: the XOR `c` of the header, then of the arguments (R191, R207). -/
def channelFrame (id c : Byte) (args : List Byte) : List Byte :=
  [SYNC, BitVec.ofNat 8 (args.length + 1), id, CHANNEL] ++ args ++ [args.foldl (· ^^^ ·) c]

theorem build_channel {id c : Byte} {args : List Byte} (hc : SYNC ^^^ BitVec.ofNat 8 (args.length + 1) ^^^ id = c) :
    build id (CHANNEL :: args) = channelFrame id c args := by
  simp [build_eq_cons, channelFrame, xorAll, ← hc]

section
variable {s : State} {i : Instr} {k : TxKind}

/-- R195: where nothing is transmitted, an outbound row loads the frame of its word. -/
theorem exec_eq_load_of_encode {T : List Byte} (hfree : s.txActive = false) (henc : encode s.par i = .txFrame k T) :
    exec i s = .next (withLoadedFrame T s) := by
  have hsel : encoderFree s = true := by rw [encoderFree, hfree]; rfl
  rw [exec_of_encode_txFrame henc, hsel, whenSelected_true]

theorem exec_eq_load_channelFrame (c : Byte) (args : List Byte) {id : Byte} (hfree : s.txActive = false)
    (henc : encode s.par i = .txFrame k (build id (CHANNEL :: args)))
    (hc : SYNC ^^^ BitVec.ofNat 8 (args.length + 1) ^^^ id = c) :
    exec i s = .next (withLoadedFrame (channelFrame id c args) s) :=
  build_channel hc ▸ exec_eq_load_of_encode hfree henc

end

/-- Settles O27: each row loads the channel's frame with its arguments; the constant of each checksum is the XOR of the sync,
the byte count and the message id. -/
theorem commandRowsLoadTheirFrames : Obligations.CommandRowsLoadTheirFrames := by
  intro s hfree
  refine ⟨?systemReset, fun v => ?capabilityRequest, fun ty net => ?assignChannel, fun v dty tty => ?setChannelId,
    fun v => ?setPeriod, fun v => ?setFrequency, fun v => ?setSearchTimeout, ?openChannel⟩
  case systemReset => exact exec_eq_load_channelFrame 0xEF [] hfree rfl (by simp)
  case capabilityRequest => exact exec_eq_load_channelFrame (0xA6 ^^^ s.par.msgCapReq) [v] hfree rfl (by simp)
  case assignChannel => exact exec_eq_load_channelFrame 0xE5 [ty, net] hfree rfl (by simp)
  case setChannelId => exact exec_eq_load_channelFrame 0xF0 [loByte v, hiByte v, dty, tty] hfree rfl (by simp)
  case setPeriod => exact exec_eq_load_channelFrame 0xE4 [loByte v, hiByte v] hfree rfl (by simp)
  case setFrequency => exact exec_eq_load_channelFrame 0xE3 [v] hfree rfl (by simp)
  case setSearchTimeout => exact exec_eq_load_channelFrame 0xE2 [v] hfree rfl (by simp)
  case openChannel => exact exec_eq_load_channelFrame 0xEE [] hfree rfl (by simp)

/-- Settles O28: the word of each row is the built frame of its payload. -/
theorem dataRowsLoadTheirFrames : Obligations.DataRowsLoadTheirFrames :=
  fun _ _ _ hfree =>
    ⟨exec_eq_load_of_encode hfree rfl, exec_eq_load_of_encode hfree rfl, exec_eq_load_of_encode hfree rfl⟩

end Sys2Proof.Machine

/-! PROOFS. The transmitter's rows (R192, R193): the byte offered and the index under each answer of the Transport. O30, O31. -/
namespace Sys2Proof.Machine

open Sys2Proof

section
variable {s : State} {d : Draw} {rest : List Stimulus}

theorem rRow_of_transmitting (h : RStepAt s d rest) (hactive : s.txActive = true) :
    rRow s = some (if s.ports.txReady then .txByte else .txStall) := by
  rw [rRow_of_rStepAt h, hactive, if_pos rfl]

/-- R42, R192: the Transport takes `tx_data` at a TX_BYTE edge and at no other. -/
theorem acceptedByte_of_rRow {i : Instr} (h : rRow s = some i) : acceptedByte s = if i = .txByte then txData s else none := by
  have hsel : rSelects s .txByte = true ↔ i = .txByte := by
    constructor
    · intro hsel
      have hrow : rRow s = some .txByte := by
        obtain ⟨hstep, hrow⟩ : rStep s = true ∧ _ := by simpa [rSelects] using hsel
        rw [rRow, if_pos hstep, hrow]
      exact Option.some.inj (h.symm.trans hrow)
    · rintro rfl
      exact rSelects_of_rRow h
  simp only [acceptedByte, hsel]

theorem txData_of_transmitting (hactive : s.txActive = true) : txData s = s.txBuf[s.txIdx.toNat]? := if_pos hactive

/-- R192, R281: the transmitter's move within the edge's own update. -/
theorem finishR_advanceTx_clearPulses (h : s.stimulus = .rclk d :: rest) :
    finishR (advanceTx (clearPulses s)) =
      if s.txIdx + 1 = s.txLen then { afterREdge d rest s with txActive := false, txIdx := 0 }
      else { afterREdge d rest s with txIdx := s.txIdx + 1 } := by
  split
  · next hlast =>
    rw [advanceTx_last (s := clearPulses s) hlast]
    exact finishR_of_rclk (s := { clearPulses s with txActive := false, txIdx := 0 }) h
  · next hmore =>
    rw [advanceTx_more (s := clearPulses s) hmore]
    exact finishR_of_rclk (s := { clearPulses s with txIdx := s.txIdx + 1 }) h

end

/-- Settles O30: TX_BYTE is the row of the edge, the byte taken is `tx_data`, and its move is `advanceTx`. -/
theorem txByteHandsOverOneByte : Obligations.TxByteHandsOverOneByte := by
  intro s d rest h hactive hready hidx
  have hrow : rRow s = some .txByte := by rw [rRow_of_transmitting h hactive, hready, if_pos rfl]
  constructor
  · rw [acceptedByte_of_rRow hrow, if_pos rfl, txData_of_transmitting hactive]
  · rw [exec_eq_rEdge hrow, rEdge_of_txByte hrow hidx, finishR_advanceTx_clearPulses h.1]

/-- Settles O31: TX_STALL is the row of the edge and writes nothing of its own, so the byte offered is read from the same
buffer at the same index. -/
theorem txStallHolds : Obligations.TxStallHolds := by
  intro s d rest h hactive hready
  have hrow : rRow s = some .txStall := by rw [rRow_of_transmitting h hactive, hready]; rfl
  refine ⟨afterREdge d rest s, ?stall, rfl, ?accepted, rfl⟩
  case stall => rw [exec_eq_rEdge hrow, rEdge_of_wait (.inl hrow), finishR_clearPulses_eq_afterREdge h.1]
  case accepted => rw [acceptedByte_of_rRow hrow, if_neg (by decide)]

end Sys2Proof.Machine

/-! PROOFS. A built frame at the receiver (R107, R208, R231): it is one the assembler completes, its class, and what the output
latch shows of it. O59. -/
namespace Sys2Proof.Machine

open Sys2Proof

section
variable {id : Byte} {P : List Byte}

/-- R90, R107, R191: a built frame is a candidate frame unless a byte after its sync is another sync. -/
theorem candidateFrame_build (hP : P.length ≤ MAX_PAYLOAD) (hsync : (build id P).tail.contains SYNC = false) :
    candidateFrame (build id P) = true := by
  have hmax : P.length ≤ 17 := hP
  have hcount : (frameByte (build id P) 1).toNat = P.length := Nat.mod_eq_of_lt (by omega)
  exact candidateFrame_iff.2 ⟨by rw [length_build, hcount], by rw [hcount]; exact hP, rfl, by simpa using hsync⟩

/-- R221, R231: a built broadcast frame, the callback being supplied, is delivered. -/
theorem frameClass_build_broadcast {sig : FrameSignals} (hsig : sig.bcastEn = true) :
    frameClass sig (build ID_BROADCAST P) = .broadcast := by
  have hid : frameByte (build ID_BROADCAST P) 2 = ID_BROADCAST := rfl
  rw [frameClass, if_pos (checksumOk_build _ P), classify, hid, if_neg (by decide), if_pos rfl, hsig, if_pos rfl]

/-- R195: a loaded frame of at most 13 bytes stands whole at the front of the transmit buffer. -/
theorem take_txBuf_withLoadedFrame_build (s : State) (hP : P.length ≤ 9) :
    let t := withLoadedFrame (build id P) s
    t.txBuf.toList.take t.txLen.toNat = build id P := by
  intro t
  have hload : t = loadTx id P s := (loadTx_eq id P s).symm
  have hlen : t.txLen.toNat = (build id P).length := by
    rw [hload, length_build]
    exact Nat.mod_eq_of_lt (by omega)
  rw [hlen, hload, loadTx_txBuf, take_fillTxBuf (by rw [length_build]; omega)]

/-- R160, R208, R231: a built broadcast frame without a second sync, fed to a hunting receiver with the callback supplied, is
delivered once, at its last byte; of the receiver only the assembler's registers have changed before. -/
theorem feed_build_broadcast {r : State} (hin : r.faIn = false) (hcallback : r.cfgQ.bcastEn = true)
    (hP : P.length ≤ MAX_PAYLOAD) (hsync : (build ID_BROADCAST P).tail.contains SYNC = false) :
    ∃ buf, feed (build ID_BROADCAST P) r =
      some (onBroadcast (build ID_BROADCAST P) { r with faBuf := buf, faIn := false, faPos := 0 }) := by
  obtain ⟨buf, -, hfeed⟩ := embeddedFrameIsDispatchedOnce r [] (build ID_BROADCAST P) hin nofun (candidateFrame_build hP hsync)
  rw [dispatch_eq, frameClass_build_broadcast hcallback] at hfeed
  exact ⟨buf, hfeed⟩

end

/-- R235: what the output latch shows of a delivered frame. -/
theorem getElem_onBroadcast_outFrame (F : List Byte) (s : State) {i : Nat} (hi : i < 21) :
    (onBroadcast F s).outFrame[i] = frameByte F i :=
  Vector.getElem_mapIdx hi

/-- Settles O59: the request loads the built frame, the receiver is fed exactly its bytes and delivers it, and the latch's
bytes read back as the address and the data. -/
theorem broadcastRoundTrip : Obligations.BroadcastRoundTrip := by
  rintro s t r n - hready hvalid hkind hexec rfl hsync hin hcallback
  have hsel : hostSelects s .hostKBcast = true := hostSelects_of_ready hready hvalid (congrArg hostRow hkind)
  obtain ⟨t', hhost, hrow⟩ := exec_hostRow_eq_txRow rfl hsel (encoderFree_of_hostReqReady hready)
  obtain rfl : t' = t := Host.Outcome.next.inj (hhost.symm.trans hexec)
  rw [loadedFramesAreTheEncodings s t' _ _ _ rfl hrow, take_txBuf_withLoadedFrame_build s (by simp [dataBytes])] at hsync ⊢
  obtain ⟨buf, hfeed⟩ := feed_build_broadcast hin hcallback (by simp [dataBytes, MAX_PAYLOAD]) hsync
  refine ⟨_, hfeed, rfl, rfl, ?_⟩
  simp only [getElem_onBroadcast_outFrame]
  exact ⟨rfl, half_loByte_hiByte _, packData_byte _⟩

end Sys2Proof.Machine

/-! PROOFS. The dispatcher's rows read forward (R220 to R237): the class of a frame under each row's condition, and the next
state of the class's row. O22 to O26. -/
namespace Sys2Proof.Machine

open Sys2Proof

/-! ### The class of a frame under each row's condition (R221) -/

/-- R222, R223: a frame with a matching checksum that carries a channel event, whatever its code. -/
structure ChannelEvent (F : List Byte) : Prop where
  checksum : checksumOk F = true
  id : frameByte F 2 = ID_EVENT
  length : 3 ≤ (frameByte F 1).toNat
  marker : frameByte F 4 = 0x01

/-- R224 to R230: the class of a channel event by its code. `frameClass_of_channelEvent` ties it to the dispatcher. -/
def eventClass (sig : FrameSignals) (code : Byte) : FrameClass :=
  if code = 0x00 then (if sig.waiting then .eventNoErrorAck else .eventNoErrorIgnored)
  else if code = 0x01 then .eventSearchTimeout
  else if code = 0x02 then .eventRxFail
  else if code = 0x03 then (if sig.txcEn then .eventTxComplete else .eventTxCompleteNoCallback)
  else .eventOther

section
variable {sig : FrameSignals} {F : List Byte}

theorem frameClass_of_badChecksum (h : checksumOk F = false) : frameClass sig F = .checksumError := by
  rw [frameClass, h]; rfl

theorem frameClass_of_checksumOk (h : checksumOk F = true) : frameClass sig F = classify sig F := if_pos h

theorem frameClass_of_shortEvent (hok : checksumOk F = true) (hid : frameByte F 2 = ID_EVENT)
    (hshort : (frameByte F 1).toNat < 3) : frameClass sig F = .eventMalformed := by
  rw [frameClass_of_checksumOk hok, classify, if_pos hid, if_pos hshort]

theorem frameClass_of_functionResponse (hok : checksumOk F = true) (hid : frameByte F 2 = ID_EVENT)
    (hlong : 3 ≤ (frameByte F 1).toNat) (hmarker : frameByte F 4 ≠ 0x01) : frameClass sig F = .functionResponse := by
  rw [frameClass_of_checksumOk hok, classify, if_pos hid, if_neg hlong.not_gt, if_pos hmarker]

theorem frameClass_of_channelEvent (h : ChannelEvent F) : frameClass sig F = eventClass sig (frameByte F 5) := by
  obtain ⟨hok, hid, hlong, hmarker⟩ := h
  rw [frameClass_of_checksumOk hok, classify, if_pos hid, if_neg hlong.not_gt, if_neg (not_not.2 hmarker), eventClass]

theorem frameClass_of_broadcast (hok : checksumOk F = true) (hid : frameByte F 2 = ID_BROADCAST) :
    frameClass sig F = if sig.bcastEn then .broadcast else .broadcastNoCallback := by
  rw [frameClass_of_checksumOk hok, classify, hid, if_neg (by decide), if_pos rfl]

theorem frameClass_of_otherId (hok : checksumOk F = true) (hevent : frameByte F 2 ≠ ID_EVENT)
    (hbroadcast : frameByte F 2 ≠ ID_BROADCAST) : frameClass sig F = .otherMessage := by
  rw [frameClass_of_checksumOk hok, classify, if_neg hevent, if_neg hbroadcast]

/-- R230: the codes above 0x03 have one class. -/
theorem eventClass_of_four_le {code : Byte} (h : 4 ≤ code.toNat) : eventClass sig code = .eventOther := by
  have hne (k : Byte) (hk : k.toNat < 4) : code ≠ k := by rintro rfl; omega
  rw [eventClass, if_neg (hne 0x00 (by decide)), if_neg (hne 0x01 (by decide)), if_neg (hne 0x02 (by decide)),
    if_neg (hne 0x03 (by decide))]

/-- R231, R232: a broadcast is delivered only with its callback supplied. -/
theorem bcastEn_of_frameClass (h : frameClass sig F = .broadcast) : sig.bcastEn = true := by
  unfold frameClass classify at h
  split_ifs at h
  assumption

/-- R228, R229: a completed transmission is delivered only with its callback supplied. -/
theorem txcEn_of_frameClass (h : frameClass sig F = .eventTxComplete) : sig.txcEn = true := by
  unfold frameClass classify at h
  split_ifs at h
  assumption

end

/-! ### The row of a class -/

section
variable {s : State} {F : List Byte}

theorem encoderFree_of_popAllowed (h : popAllowed s = true) : encoderFree s = true := by
  obtain ⟨-, hfree⟩ := Bool.and_eq_true_iff.1 h
  exact hfree

/-- R44, R173: a waiting stage pops bytes. -/
theorem popAllowed_of_waiting (h : waiting s = true) : popAllowed s = true := by
  obtain ⟨hcommand, hfree⟩ := Bool.and_eq_true_iff.1 h
  refine Bool.and_eq_true_iff.2 ⟨?_, hfree⟩
  cases hstage : s.stage
  case idle => rw [hstage] at hcommand; cases hcommand
  all_goals rfl

theorem exec_row_of_frameClass {c : FrameClass} (hpop : popAllowed s = true) (hshape : frameShape F = true)
    (hc : frameClass (frameSignals s) F = c) : exec (c.row F) s = .next (frameEffect F s c) := by
  subst hc
  rw [exec_frameRow_of_class hpop hshape, dispatch_eq]

theorem exec_row_of_eventClass {c : FrameClass} {code : Byte} (hpop : popAllowed s = true) (hshape : frameShape F = true)
    (h : ChannelEvent F) (hcode : frameByte F 5 = code) (hc : eventClass (frameSignals s) code = c) :
    exec (c.row F) s = .next (frameEffect F s c) :=
  exec_row_of_frameClass hpop hshape (by rw [frameClass_of_channelEvent h, hcode, hc])

end

/-- R235, R284: a report of a frame writes the latch and the report, and nothing else. -/
theorem latchReport_eq (k : DiagKind) (F : List Byte) (s : State) :
    latchReport k F s = { withLatchedFrame F s with diagValid := true, diagKind := k } := rfl

/-! ### The reporting, the silent and the callback rows -/

/-- Settles O22: each condition gives its class, and the effect of each of the five classes is a report of the frame. -/
theorem reportingRows : Obligations.ReportingRows := by
  intro s F hpop hshape
  have report {c : FrameClass} {k : DiagKind} (hc : frameClass (frameSignals s) F = c)
      (heffect : frameEffect F s c = latchReport k F s) :
      exec (c.row F) s = .next { withLatchedFrame F s with diagValid := true, diagKind := k } := by
    rw [exec_row_of_frameClass hpop hshape hc, heffect, latchReport_eq]
  refine ⟨fun hbad => ?checksumError, fun hok hid hshort => ?eventMalformed, fun hok hid hlong hmarker => ?functionResponse,
    fun hok hid hlong hmarker hcode => ?eventOther, fun hok hevent hbroadcast => ?otherMessage⟩
  case checksumError => exact report (frameClass_of_badChecksum hbad) rfl
  case eventMalformed => exact report (frameClass_of_shortEvent hok hid hshort) rfl
  case functionResponse => exact report (frameClass_of_functionResponse hok hid hlong hmarker) rfl
  case eventOther =>
    have hclass := frameClass_of_channelEvent (sig := frameSignals s) ⟨hok, hid, hlong, hmarker⟩
    exact report (hclass.trans (eventClass_of_four_le hcode)) rfl
  case otherMessage => exact report (frameClass_of_otherId hok hevent hbroadcast) rfl

/-- Settles O23: each condition gives its class, and the effect of each of the four classes is the state itself. -/
theorem silentRows : Obligations.SilentRows := by
  intro s F hpop hshape hok
  refine ⟨fun hid hlong hmarker hcode hwaiting => ?noErrorIgnored, fun hid hlong hmarker hcode => ?rxFail,
    fun hid hlong hmarker hcode hdisabled => ?txComplete, fun hid hdisabled => ?broadcast⟩
  case noErrorIgnored =>
    exact exec_row_of_eventClass (c := .eventNoErrorIgnored) hpop hshape ⟨hok, hid, hlong, hmarker⟩ hcode
      (by simp [eventClass, frameSignals, hwaiting])
  case rxFail => exact exec_row_of_eventClass (c := .eventRxFail) hpop hshape ⟨hok, hid, hlong, hmarker⟩ hcode rfl
  case txComplete =>
    exact exec_row_of_eventClass (c := .eventTxCompleteNoCallback) hpop hshape ⟨hok, hid, hlong, hmarker⟩ hcode
      (by simp [eventClass, frameSignals, hdisabled])
  case broadcast =>
    exact exec_row_of_frameClass (c := .broadcastNoCallback) hpop hshape
      (by simp [frameClass_of_broadcast hok hid, frameSignals, hdisabled])

/-- Settles O24: with its callback supplied each condition gives the class that delivers. -/
theorem callbackRows : Obligations.CallbackRows := by
  intro s F hpop hshape hok
  refine ⟨fun hid hlong hmarker hcode henabled => ?txComplete, fun hid henabled => ?broadcast⟩
  case txComplete =>
    exact exec_row_of_eventClass (c := .eventTxComplete) hpop hshape ⟨hok, hid, hlong, hmarker⟩ hcode
      (by simp [eventClass, frameSignals, henabled])
  case broadcast =>
    exact exec_row_of_frameClass (c := .broadcast) hpop hshape
      (by simp [frameClass_of_broadcast hok hid, frameSignals, henabled])

/-! ### The rows that move the stage -/

section
variable {s : State} {g : Stage} {i : Instr}

/-- R255, R256: an acknowledgment that leads to a command stage runs that stage's outbound row in it. -/
theorem exec_stageTxRow_nextStage (hfree : encoderFree s = true) (hg : nextStage s.cfgQ.role s.stage = g)
    (hi : stageTxRow s g = some i) : exec i { s with stage := g } = .next (ackStage s) := by
  subst hg
  cases hstage : s.stage <;> rw [hstage] at hi <;> rw [ackStage, hstage]
  case openChannel =>
    rw [ackOpenChannel]
    cases hrole : s.cfgQ.role <;> rw [hrole] at hi <;> cases hi
    exact whenSelected_next.2 ⟨hfree, rfl⟩
  all_goals cases hi
  all_goals exact whenSelected_next.2 ⟨hfree, rfl⟩

/-- R255, R256: an acknowledgment that ends the handshake only sets the stage. -/
theorem ackStage_eq_of_configured (hg : nextStage s.cfgQ.role s.stage = .configured) :
    ackStage s = { s with stage := .configured } := by
  cases hstage : s.stage <;> rw [hstage] at hg <;> rw [ackStage, hstage]
  case openChannel =>
    rw [ackOpenChannel]
    cases hrole : s.cfgQ.role <;> rw [hrole] at hg
    case master => rfl
    case slave => cases hg
  case addressAnnounce => rfl
  case configured =>
    show s = _
    rw [← hstage]
  all_goals cases hg

end

/-- Settles O25, by the stage the acknowledgment leads to. -/
theorem acknowledgmentAdvancesTheStage : Obligations.AcknowledgmentAdvancesTheStage := by
  intro s F hwaiting hshape hok hid hlong hmarker hcode
  have hpop := popAllowed_of_waiting hwaiting
  have hexec : exec (.eventNoErrorAck F) s = .next (ackStage s) :=
    exec_row_of_eventClass (c := .eventNoErrorAck) hpop hshape ⟨hok, hid, hlong, hmarker⟩ hcode
      (by simp [eventClass, frameSignals, hwaiting])
  have hload {g : Stage} {i : Instr} (hg : nextStage s.cfgQ.role s.stage = g) (hi : stageTxRow s g = some i) :
      exec i { s with stage := g } = .next (ackStage s) :=
    exec_stageTxRow_nextStage (encoderFree_of_popAllowed hpop) hg hi
  refine ⟨_, hexec, fun h => hload ?_ rfl, fun h => hload ?_ rfl, fun h => hload ?_ rfl, fun h => hload ?_ rfl,
    fun h hrole => hload ?_ rfl, fun h hrole => ackStage_eq_of_configured ?_, fun h => ackStage_eq_of_configured ?_⟩
  case refine_5 => rw [h, hrole]; rfl
  case refine_6 => rw [h, hrole]; rfl
  all_goals rw [h]; rfl

/-- Settles O26: the restart is the assign-channel row of the latched role from the reporting state. -/
theorem searchTimeoutRestarts : Obligations.SearchTimeoutRestarts := by
  intro s F hpop hshape hok hid hlong hmarker hcode
  have hexec : exec (.eventSearchTimeout F) s = .next (restart (latchReport .searchTimeout F s)) :=
    exec_row_of_eventClass (c := .eventSearchTimeout) hpop hshape ⟨hok, hid, hlong, hmarker⟩ hcode rfl
  have hfree : encoderFree s = true := encoderFree_of_popAllowed hpop
  refine ⟨_, hexec, ?_⟩
  rw [← channelType_eq]
  exact whenSelected_next.2 ⟨hfree, rfl⟩

end Sys2Proof.Machine

/-! PROOFS. The outputs' invariant (R235, R236, R303). After an R step's first writes no pulse is set (`Quiet`), and the one row
it runs sets at most one. O49. -/
namespace Sys2Proof.Machine

open Sys2Proof

/-! ### States without a pulse -/

/-- R235: the latch holds at most 21 bytes and zeros after them. -/
def LatchInv (s : State) : Prop :=
  s.outLen.toNat ≤ FB_SIZE ∧ ∀ i, s.outLen.toNat ≤ i → i < FB_SIZE → s.outFrame[i]? = some 0x00

/-- No pulse is set, and the latch is as `OutputInv` says. -/
structure Quiet (s : State) : Prop where
  bcastEvt : s.bcastEvt = false
  txcEvt : s.txcEvt = false
  diagValid : s.diagValid = false
  latchInv : LatchInv s

theorem quiet_clearPulses {s : State} (h : OutputInv s) : Quiet (clearPulses s) := by
  obtain ⟨-, -, -, -, -, -, hlatch⟩ := h
  exact ⟨rfl, rfl, rfl, hlatch⟩

namespace Quiet

variable {s : State} (h : Quiet s)
include h

theorem outputInv : OutputInv s := by
  obtain ⟨hbcast, htxc, hdiag, hlatch⟩ := h
  simp only [OutputInv, hbcast, htxc, hdiag]
  exact ⟨rfl, rfl, rfl, nofun, nofun, nofun, hlatch⟩

/-- R236: a report is the only pulse, and it has a kind. -/
theorem outputInv_report {k : DiagKind} (hk : k ≠ .none) : OutputInv (report k s) := by
  obtain ⟨hbcast, htxc, -, hlatch⟩ := h
  simp only [OutputInv, report_bcastEvt, report_txcEvt, hbcast, htxc]
  exact ⟨rfl, rfl, rfl, nofun, nofun, fun _ => hk, hlatch⟩

/-- R236: a delivered broadcast is the only pulse. -/
theorem outputInv_emitBcast (henabled : s.cfgQ.bcastEn = true) : OutputInv (emitBcast s) := by
  obtain ⟨-, htxc, hdiag, hlatch⟩ := h
  simp only [OutputInv, emitBcast_txcEvt, emitBcast_diagValid, htxc, hdiag]
  exact ⟨by simp, by simp, rfl, fun _ => henabled, nofun, nofun, hlatch⟩

/-- R236: a completed transmission is the only pulse. -/
theorem outputInv_emitTxDone (henabled : s.cfgQ.txcEn = true) : OutputInv (emitTxDone s) := by
  obtain ⟨hbcast, -, hdiag, hlatch⟩ := h
  simp only [OutputInv, emitTxDone_bcastEvt, emitTxDone_diagValid, hbcast, hdiag]
  exact ⟨rfl, rfl, by simp, nofun, fun _ => henabled, nofun, hlatch⟩

/-- R235: a frame that fits, latched, has zeros after it. -/
theorem after_latch {F : List Byte} (hF : F.length ≤ FB_SIZE) : Quiet (latch F s) := by
  have hlen : (latch F s).outLen.toNat = F.length :=
    Nat.mod_eq_of_lt (Nat.lt_of_le_of_lt hF (by decide))
  refine ⟨h.bcastEvt, h.txcEvt, h.diagValid, ?_⟩
  rw [LatchInv, hlen]
  refine ⟨hF, fun i hend hi => ?_⟩
  have hpast : frameByte F i = 0x00 := List.getD_eq_default F 0 hend
  exact (Vector.getElem?_eq_getElem hi).trans (congrArg some ((Vector.getElem_mapIdx hi).trans hpast))

/-- R224: the acknowledgment is silent. -/
theorem after_ackStage : Quiet (ackStage s) := by
  rw [ackStage]
  cases s.stage
  case openChannel =>
    show Quiet (ackOpenChannel s)
    rw [ackOpenChannel]
    cases s.cfgQ.role <;> exact { h with }
  all_goals exact { h with }

end Quiet

/-! ### The rows of an R edge -/

theorem length_candidate_le (b : Byte) (s : State) : (candidate b s).length ≤ s.faPos.toNat + 1 := by
  rw [candidate, List.length_append]
  exact Nat.add_le_add_right (List.length_take_le ..) 1

/-- R222 to R234: the row of a frame's class sets at most one pulse. -/
theorem outputInv_frameEffect {s : State} {F : List Byte} {c : FrameClass} (h : Quiet s) (hF : F.length ≤ FB_SIZE)
    (hc : frameClass (frameSignals s) F = c) : OutputInv (frameEffect F s c) := by
  have hreport {k : DiagKind} (hk : k ≠ .none) : OutputInv (latchReport k F s) := (h.after_latch hF).outputInv_report hk
  cases c
  case eventNoErrorAck => exact h.after_ackStage.outputInv
  case eventTxComplete => exact h.outputInv_emitTxDone (txcEn_of_frameClass hc)
  case broadcast => exact (h.after_latch hF).outputInv_emitBcast (bcastEn_of_frameClass hc)
  case eventNoErrorIgnored | eventRxFail | eventTxCompleteNoCallback | broadcastNoCallback => exact h.outputInv
  all_goals exact hreport nofun

/-- R33, R168: of the assembler rows only the checksum byte's sets a pulse, by the row of its frame, which fits the latch. -/
theorem outputInv_asmEffect {s : State} {b : Byte} {c : AsmCase} (h : Quiet s) (hc : asmCase (asmSignals s) b = some c) :
    OutputInv (asmEffect b s c) := by
  rcases asmCase_cases hc with ⟨rfl, -⟩ | ⟨rfl, -⟩ | ⟨rfl, -⟩ | ⟨rfl, -⟩ | ⟨rfl, -⟩ | ⟨rfl, -⟩ | ⟨rfl, -⟩ |
    ⟨rfl, -, -, -, hpos, -⟩
  case inr.inr.inr.inr.inr.inr.inr =>
    rw [asmEffect, onChecksumByte, dispatch_eq]
    have hfits : (candidate b s).length ≤ FB_SIZE := (length_candidate_le b s).trans (Nat.succ_le_succ hpos)
    exact outputInv_frameEffect { h with } hfits rfl
  all_goals exact h.outputInv

theorem outputInv_finishR {s : State} (h : OutputInv s) : OutputInv (finishR s) := by
  simpa only [OutputInv, finishR_bcastEvt, finishR_txcEvt, finishR_diagValid, finishR_diagKind, finishR_cfgQ,
    finishR_outLen, finishR_outFrame] using h

/-- R281: an R step clears the pulses first, then runs its row; an edge in reset leaves them. -/
theorem outputInv_rEdge {s t : State} (h : OutputInv s) (ht : rEdge s = .next t) : OutputInv t := by
  have hquiet : Quiet (clearPulses s) := quiet_clearPulses h
  rcases rEdge_next ht with ⟨-, rfl⟩ | ⟨-, -, -, rfl⟩ | ⟨-, -, -, rfl⟩ | ⟨-, -, rfl⟩ |
    ⟨b, c, -, -, -, -, -, hc, rfl⟩ | ⟨-, rfl⟩
  · exact h
  · refine outputInv_finishR ?_
    rw [advanceTx]
    split <;> exact hquiet.outputInv
  · have hstarted : Quiet (startBlock (clearPulses s)) := { hquiet with }
    exact outputInv_finishR hstarted.outputInv
  · refine outputInv_finishR ?_
    rcases acceptRequest_cases (clearPulses s) with ⟨id, P, -, e⟩ | e <;> rw [e]
    · exact hquiet.outputInv
    · exact hquiet.outputInv_report nofun
  · exact outputInv_finishR (outputInv_asmEffect hquiet hc)
  · exact outputInv_finishR hquiet.outputInv

/-- Settles O49: only an `rclk` edge and an assertion of reset write the outputs or the enables. -/
theorem outputInvariantIsKept : Obligations.OutputInvariantIsKept := by
  intro s t h hst
  rcases step_next hst with ⟨-, rfl⟩ | ⟨d, rest, hs, -⟩ | ⟨-, -, -, ht⟩ | ⟨_, _, _, -, rfl⟩ | ⟨_, _, -, rfl⟩ | ⟨_, _, -, rfl⟩ |
    ⟨_, -, rfl⟩ | ⟨_, -, rfl⟩
  case inr.inl =>
    obtain ⟨hown, -⟩ := eachDomainWritesItsOwnState s t d rest hst
    rw [hown hs]
    exact h
  case inr.inr.inl => exact outputInv_rEdge h ht
  case inr.inr.inr.inr.inr.inr.inr => exact outputInv_resetOf s.par
  all_goals exact h

end Sys2Proof.Machine

/-! PROOFS. The configurator (R250 to R261): which rows write the stage, and what START does. O52, O32. -/
namespace Sys2Proof.Machine

open Sys2Proof

/-! ### The rows inside a POP (R160, R168) -/

section
variable {s : State} {b : Byte}

theorem asmRow_of_pop {c : AsmCase} (hrow : rRow s = some .pop) (hb : fifoRead s = .ok b)
    (hc : asmCase (asmSignals s) b = some c) : asmRow s = some (c.row b) := by
  simp only [asmRow, hrow, hb, decode_asmByte hc, Except.toOption]

theorem frameRow_of_pop {c : FrameClass} (hrow : rRow s = some .pop) (hb : fifoRead s = .ok b)
    (hc : asmCase (asmSignals s) b = some .checksumByte) (hclass : frameClass (frameSignals s) (candidate b s) = c) :
    frameRow s = some (c.row (candidate b s)) := by
  simp only [frameRow, asmRow_of_pop hrow hb hc, AsmCase.row, hclass]

end

/-! ### The stage after each part of an R step -/

/-- R224, R225: an event without error is an acknowledgment only while one is awaited. -/
theorem waiting_of_frameClass {sig : FrameSignals} {F : List Byte} (h : frameClass sig F = .eventNoErrorAck) :
    sig.waiting = true := by
  unfold frameClass classify at h
  split_ifs at h
  assumption

@[simp] theorem advanceTx_stage (s : State) : (advanceTx s).stage = s.stage := by
  unfold advanceTx
  split <;> rfl

/-- R285: the host's requests never move the stage. -/
@[simp] theorem acceptRequest_stage (s : State) : (acceptRequest s).stage = s.stage := by
  rcases acceptRequest_cases s with ⟨id, P, -, e⟩ | e <;> rw [e] <;> rfl

/-- R252. -/
@[simp] theorem startBlock_stage (s : State) : (startBlock s).stage = .assignChannel := rfl

/-- R224, R226: of the frame rows only the acknowledgment and the restart write the stage. -/
theorem frameEffect_stage (F : List Byte) (s : State) (c : FrameClass) :
    (c = .eventNoErrorAck ∧ (frameEffect F s c).stage = nextStage s.cfgQ.role s.stage) ∨
    (c = .eventSearchTimeout ∧ (frameEffect F s c).stage = .assignChannel) ∨
    (frameEffect F s c).stage = s.stage := by
  cases c
  case eventNoErrorAck => exact .inl ⟨rfl, ackStage_stage s⟩
  case eventSearchTimeout => exact .inr (.inl ⟨rfl, restart_stage _⟩)
  all_goals exact .inr (.inr rfl)

/-- R168: of the assembler rows only the checksum byte's can write the stage, by the row of its frame. -/
theorem asmEffect_stage (b : Byte) (s : State) (c : AsmCase) :
    (c = .checksumByte ∧ frameClass (frameSignals s) (candidate b s) = .eventNoErrorAck ∧
      (asmEffect b s c).stage = nextStage s.cfgQ.role s.stage) ∨
    (c = .checksumByte ∧ frameClass (frameSignals s) (candidate b s) = .eventSearchTimeout ∧
      (asmEffect b s c).stage = .assignChannel) ∨
    (asmEffect b s c).stage = s.stage := by
  cases c
  case checksumByte =>
    rw [asmEffect, onChecksumByte, dispatch_eq]
    rcases frameEffect_stage (candidate b s) { storeFaBuf s.faPos.toNat b s with faIn := false, faPos := 0 }
      (frameClass (frameSignals s) (candidate b s)) with ⟨hclass, hstage⟩ | ⟨hclass, hstage⟩ | hstage
    · exact .inl ⟨rfl, hclass, hstage⟩
    · exact .inr (.inl ⟨rfl, hclass, hstage⟩)
    · exact .inr (.inr hstage)
  all_goals exact .inr (.inr rfl)

/-- R250, R261: of an R edge's rows only START, an acknowledgment while waiting and a search timeout write the stage. -/
theorem rEdge_stage {s t : State} (h : rEdge s = .next t) :
    t.stage = s.stage ∨
    (rRow s = some .start ∧ s.stage = .idle ∧ t.stage = .assignChannel) ∨
    (∃ F, frameRow s = some (.eventNoErrorAck F) ∧ waiting s = true ∧ t.stage = nextStage s.cfgQ.role s.stage) ∨
    (∃ F, frameRow s = some (.eventSearchTimeout F) ∧ t.stage = .assignChannel) := by
  rcases rEdge_next h with ⟨-, rfl⟩ | ⟨-, -, -, rfl⟩ | ⟨hrow, -, hidle, rfl⟩ | ⟨-, -, rfl⟩ |
    ⟨b, c, hrow, -, -, -, hb, hc, rfl⟩ | ⟨-, rfl⟩
  case inr.inr.inl => exact .inr (.inl ⟨hrow, hidle, by simp⟩)
  case inr.inr.inr.inr.inl =>
    rw [finishR_stage, advanceRead_stage]
    rcases asmEffect_stage b (clearPulses s) c with ⟨rfl, hclass, hstage⟩ | ⟨rfl, hclass, hstage⟩ | hstage
    · exact .inr (.inr (.inl ⟨_, frameRow_of_pop hrow hb hc hclass, waiting_of_frameClass hclass, hstage⟩))
    · exact .inr (.inr (.inr ⟨_, frameRow_of_pop hrow hb hc hclass, hstage⟩))
    · exact .inl hstage
  all_goals exact .inl (by simp)

/-! ### The statements -/

/-- Settles O52: only an `rclk` edge and an assertion of reset can write the stage. -/
theorem stageChangesOnlyByTheConfigurator : Obligations.StageChangesOnlyByTheConfigurator := by
  intro s t h hne
  rcases step_readSide h with hsame | hr | ⟨rest, hreset, rfl⟩
  · exact absurd hsame.stage hne
  · rcases (rEdge_stage hr).resolve_left hne with hstart | hack | htimeout
    · exact .inl hstart
    · exact .inr (.inl hack)
    · exact .inr (.inr (.inl htimeout))
  · exact .inr (.inr (.inr ⟨rest, hreset, rfl⟩))

/-- R252: START is the assign-channel row, from the edge's own update with the inputs latched. -/
theorem finishR_startBlock {s : State} {d : Draw} {rest : List Stimulus} (h : s.stimulus = .rclk d :: rest) :
    finishR (startBlock (clearPulses s)) = loadAssignChannel (channelType s.par s.ports.host.cfg.role) s.par.networkNumber
      { afterREdge d rest s with cfgQ := s.ports.host.cfg, stage := .assignChannel } :=
  finishR_of_rclk (s := startBlock (clearPulses s)) h

/-- Settles O32: START is selected under its condition and is the load of `finishR_startBlock`; its row needs stage Idle. -/
theorem startLatchesTheConfiguration : Obligations.StartLatchesTheConfiguration := by
  intro s d rest h
  refine ⟨fun hactive hidle hstart => ?starts, fun hstage hrow => ?ignored⟩
  case starts =>
    have hrow : rRow s = some .start := by simpa [hactive, hidle, hstart] using rRow_of_rStepAt h
    have hfree : encoderFree (afterREdge d rest s) = true := congrArg (!·) hactive
    rw [← channelType_eq]
    refine ⟨_, (exec_eq_rEdge hrow).trans (rEdge_of_start hrow), ?_⟩
    rw [finishR_startBlock h.1]
    exact whenSelected_next.2 ⟨hfree, rfl⟩
  case ignored =>
    rcases rRow_cases hrow with ⟨hi, -⟩ | ⟨hi, -⟩ | ⟨-, -, hidle, -⟩ | ⟨hi, -⟩ | ⟨hi, -⟩ | ⟨hi, -⟩ | ⟨hi, -⟩ | ⟨hi, -⟩
    case inr.inr.inl => exact hstage hidle
    all_goals cases hi

end Sys2Proof.Machine

/-! PROOFS. The host interface: the order of priority of an R step (R43, R282), the accepted request (R285, R286), and what an
R step leaves in the output registers (R235, R281, R284). O5, O36, O57. -/
namespace Sys2Proof.Machine

open Sys2Proof

/-! ### The priority of an R step -/

section
variable {s : State}

theorem hostReqReady_iff :
    hostReqReady s = true ↔ s.stage = .configured ∧ s.txActive = false ∧ rdEmpty s = true ∧ s.faIn = false := by
  simp [hostReqReady, and_assoc]

/-- R43, R344: the host is never ready with a byte to pop. -/
theorem rdEmpty_of_hostReqReady (h : hostReqReady s = true) : rdEmpty s = true := by
  obtain ⟨-, -, hempty, -⟩ := hostReqReady_iff.1 h
  exact hempty

theorem hostReqReady_and_rdEmpty (s : State) : (hostReqReady s && rdEmpty s) = hostReqReady s := by
  rw [Bool.and_eq_left_iff_imp]
  exact rdEmpty_of_hostReqReady

end

/-- Settles O5: the row by the seven signals, of which a ready host makes `rd_empty` redundant. -/
theorem readStepFollowsThePriority : Obligations.ReadStepFollowsThePriority := by
  refine ⟨fun s d rest h => ?priority, fun s => ⟨hostReqReady_iff, rdEmpty_of_hostReqReady⟩⟩
  have hrow := rRow_of_rStepAt h
  simp only [Bool.and_assoc, hostReqReady_and_rdEmpty, beq_iff_eq] at hrow
  exact hrow

/-! ### The accepted request -/

section
variable {s : State}

/-- R103, R106: the row of a request's kind, selected, is the acceptance of the request. -/
theorem exec_hostRow_reqKind (hsel : hostSelects s (hostRow s.ports.host.reqKind) = true) :
    exec (hostRow s.ports.host.reqKind) s = .next (acceptRequest s) := by
  unfold acceptRequest
  unfold hostRow at hsel ⊢
  split
  all_goals
    simp only [*] at hsel ⊢
    exact whenSelected_next.2 ⟨hsel, rfl⟩

/-- R285 to R287: an accepted request writes the transmitter and the report and nothing else. -/
theorem acceptRequest_frame (s : State) : ∃ ta tb tl ti dv dk,
    acceptRequest s = { s with txActive := ta, txBuf := tb, txLen := tl, txIdx := ti, diagValid := dv, diagKind := dk } := by
  rcases acceptRequest_cases s with ⟨id, P, -, e⟩ | e
  · exact ⟨_, _, _, _, _, _, e⟩
  · exact ⟨_, _, _, _, _, _, e⟩

/-- R106, R286: of the accepted requests exactly those of a reserved kind report; the others load a frame. -/
theorem acceptRequest_reportOf (s : State) :
    (reportOf (hostRow s.ports.host.reqKind) = none ∧ ∃ id P, acceptRequest s = loadTx id P s) ∨
    (reportOf (hostRow s.ports.host.reqKind) = some .badHostRequest ∧ acceptRequest s = report .badHostRequest s) := by
  unfold acceptRequest hostRow
  split
  case h_11 | h_12 | h_13 => exact .inr ⟨rfl, by simp only [*]; rfl⟩
  all_goals exact .inl ⟨rfl, _, _, by simp only [*]; rfl⟩

end

/-- Settles O36: HOST_REQ is the acceptance of the request from the cleared pulses, then the edge's own update. -/
theorem hostRequestRunsTheKindsRow : Obligations.HostRequestRunsTheKindsRow := by
  intro s d rest h hready hvalid
  obtain ⟨hconfigured, hinactive, hempty, -⟩ := hostReqReady_iff.1 hready
  have hrow : rRow s = some .hostReq := by
    simpa [hconfigured, hinactive, hempty, hready, hvalid] using rRow_of_rStepAt h
  have hkind := exec_hostRow_reqKind (s := clearPulses s) (hostSelects_of_ready hready hvalid rfl)
  have hreq := (exec_eq_rEdge hrow).trans (rEdge_of_hostReq hrow)
  obtain ⟨_, _, _, _, _, _, e⟩ := acceptRequest_frame (clearPulses s)
  have hstim : (acceptRequest (clearPulses s)).stimulus = .rclk d :: rest := by rw [e]; exact h.1
  rw [finishR_of_rclk hstim, e] at hreq
  rw [e] at hkind
  exact ⟨_, _, hkind, hreq, rfl, rfl, rfl, rfl, rfl, rfl, rfl, fun _ => rfl, rfl, rfl, rfl, rfl, rfl⟩

/-! ### What the rows of an R step leave in the output registers -/

/-- R235: the frame a row latches. `latchedByEdge_eq` ties it to the statements' word for the edge. -/
def latchOf : Instr → Option (List Byte)
  | .checksumError F => some F
  | .eventMalformed F => some F
  | .functionResponse F => some F
  | .eventSearchTimeout F => some F
  | .eventOther F => some F
  | .broadcast F => some F
  | .otherMessage F => some F
  | _ => none

theorem latchedByEdge_eq (s : State) : latchedByEdge s = (frameRow s).bind latchOf := by
  rw [latchedByEdge]
  cases frameRow s with
  | none => rfl
  | some i => cases i <;> rfl

/-- R281: no event pulse is set. -/
structure NoPulse (s : State) : Prop where
  bcastEvt : s.bcastEvt = false
  txcEvt : s.txcEvt = false
  diagValid : s.diagValid = false

/-- R235, R281, R284: the output registers of `t` are those of `s` after the frame row `f` and the host row `h`. -/
structure ShowsRows (f h : Option Instr) (s t : State) : Prop where
  bcastEvt : t.bcastEvt = true ↔ ∃ F, f = some (.broadcast F)
  txcEvt : t.txcEvt = true ↔ ∃ F, f = some (.eventTxComplete F)
  diagValid : t.diagValid = ((f.bind reportOf).or (h.bind reportOf)).isSome
  diagKind : t.diagKind = ((f.bind reportOf).or (h.bind reportOf)).getD s.diagKind
  latched : ∀ F, f.bind latchOf = some F →
    t.outFrame = (withLatchedFrame F s).outFrame ∧ t.outLen = (withLatchedFrame F s).outLen
  kept : f.bind latchOf = none → t.outFrame = s.outFrame ∧ t.outLen = s.outLen

namespace NoPulse

variable {s : State} (hs : NoPulse s) {F : List Byte} {i : Instr} {k : DiagKind}
include hs

/-- Rows that neither report, latch nor deliver leave the cleared outputs. -/
theorem showsRows_silent {f h : Option Instr} (hreport : (f.bind reportOf).or (h.bind reportOf) = none)
    (hlatch : f.bind latchOf = none) (htxc : ∀ F, f ≠ some (.eventTxComplete F)) : ShowsRows f h s s where
  bcastEvt := iff_of_false (ne_true_of_eq_false hs.bcastEvt) (by rintro ⟨_, rfl⟩; cases hlatch)
  txcEvt := iff_of_false (ne_true_of_eq_false hs.txcEvt) (not_exists.2 htxc)
  diagValid := by rw [hreport, hs.diagValid]; rfl
  diagKind := by rw [hreport]; rfl
  latched _ hF := by cases hlatch.symm.trans hF
  kept _ := ⟨rfl, rfl⟩

/-- R222 to R234: a frame row that reports its frame. -/
theorem showsRows_latchReport (hreport : reportOf i = some k) (hlatch : latchOf i = some F) :
    ShowsRows (some i) none s (latchReport k F s) where
  bcastEvt := iff_of_false (ne_true_of_eq_false hs.bcastEvt) (by rintro ⟨_, ⟨⟩⟩; cases hreport)
  txcEvt := iff_of_false (ne_true_of_eq_false hs.txcEvt) (by rintro ⟨_, ⟨⟩⟩; cases hreport)
  diagValid := by simp [hreport, latchReport]
  diagKind := by simp [hreport, latchReport]
  latched G hG := by
    cases hlatch.symm.trans hG
    exact ⟨rfl, rfl⟩
  kept hnone := by cases hlatch.symm.trans hnone

/-- R231: the broadcast row delivers its frame. -/
theorem showsRows_broadcast (F : List Byte) : ShowsRows (some (.broadcast F)) none s (onBroadcast F s) where
  bcastEvt := ⟨fun _ => ⟨F, rfl⟩, fun _ => rfl⟩
  txcEvt := iff_of_false (ne_true_of_eq_false hs.txcEvt) nofun
  diagValid := hs.diagValid
  diagKind := rfl
  latched G hG := by
    cases hG
    exact ⟨rfl, rfl⟩
  kept := nofun

/-- R228: the row of a completed transmission delivers no frame. -/
theorem showsRows_eventTxComplete (F : List Byte) : ShowsRows (some (.eventTxComplete F)) none s (onEventTxComplete s) where
  bcastEvt := iff_of_false (ne_true_of_eq_false hs.bcastEvt) nofun
  txcEvt := ⟨fun _ => ⟨F, rfl⟩, fun _ => rfl⟩
  diagValid := hs.diagValid
  diagKind := rfl
  latched := nofun
  kept _ := ⟨rfl, rfl⟩

/-- R284, R286: a host row that reports latches no frame. -/
theorem showsRows_report (hreport : reportOf i = some k) : ShowsRows none (some i) s (report k s) where
  bcastEvt := iff_of_false (ne_true_of_eq_false hs.bcastEvt) nofun
  txcEvt := iff_of_false (ne_true_of_eq_false hs.txcEvt) nofun
  diagValid := by simp [hreport]
  diagKind := by simp [hreport]
  latched := nofun
  kept _ := ⟨rfl, rfl⟩

end NoPulse

namespace ShowsRows

variable {f h : Option Instr} {s u : State} (hu : ShowsRows f h s u)
include hu

/-- R224: the acknowledgment is silent. -/
theorem after_ackStage : ShowsRows f h s (ackStage u) := by
  rw [ackStage]
  cases u.stage
  case openChannel =>
    show ShowsRows f h s (ackOpenChannel u)
    rw [ackOpenChannel]
    cases u.cfgQ.role <;> exact { hu with }
  all_goals exact { hu with }

theorem after_advanceTx : ShowsRows f h s (advanceTx u) := by
  rw [advanceTx]
  split <;> exact { hu with }

theorem after_finishR : ShowsRows f h s (finishR u) := by
  rw [finishR]
  split <;> exact { hu with }

end ShowsRows

section
variable {s : State}

theorem noPulse_clearPulses (s : State) : NoPulse (clearPulses s) := ⟨rfl, rfl, rfl⟩

/-- R281: an edge that runs no row on the outputs only clears the pulses. -/
theorem showsRows_clearPulses (s : State) : ShowsRows none none s (clearPulses s) := by
  have hquiet := (noPulse_clearPulses s).showsRows_silent (f := none) (h := none) rfl rfl nofun
  exact { hquiet with }

/-- R222 to R234: each class's effect shows in the outputs as its row says. -/
theorem showsRows_frameEffect (hs : NoPulse s) (F : List Byte) (c : FrameClass) :
    ShowsRows (some (c.row F)) none s (frameEffect F s c) := by
  cases c
  case eventNoErrorAck => exact ShowsRows.after_ackStage (hs.showsRows_silent rfl rfl nofun)
  case eventNoErrorIgnored | eventRxFail | eventTxCompleteNoCallback | broadcastNoCallback =>
    exact hs.showsRows_silent rfl rfl nofun
  case eventTxComplete => exact hs.showsRows_eventTxComplete F
  case broadcast => exact hs.showsRows_broadcast F
  case eventSearchTimeout =>
    have hreport : ShowsRows (some (.eventSearchTimeout F)) none s (latchReport .searchTimeout F s) :=
      hs.showsRows_latchReport rfl rfl
    exact { hreport with }
  all_goals exact hs.showsRows_latchReport rfl rfl

/-- R168: of the assembler rows only CHECKSUM_BYTE runs a frame row. -/
theorem frameRow_of_pop_eq_none {b : Byte} {c : AsmCase} (hrow : rRow s = some .pop) (hb : fifoRead s = .ok b)
    (hc : asmCase (asmSignals s) b = some c) (hother : c ≠ .checksumByte) : frameRow s = none := by
  rw [frameRow, asmRow_of_pop hrow hb hc]
  cases c
  case checksumByte => exact absurd rfl hother
  all_goals rfl

theorem hostPortRow_of_hostReq (hrow : rRow s = some .hostReq) :
    hostPortRow s = some (hostRow s.ports.host.reqKind) := by
  simp only [hostPortRow, hrow, decode, Except.toOption]

/-- R160, R168: a popped byte shows in the outputs only as the frame row it completes. -/
theorem showsRows_asmEffect {b : Byte} {c : AsmCase} (hrow : rRow s = some .pop) (hb : fifoRead s = .ok b)
    (hc : asmCase (asmSignals s) b = some c) : ShowsRows (frameRow s) none s (asmEffect b (clearPulses s) c) := by
  cases c
  case checksumByte =>
    rw [frameRow_of_pop hrow hb hc rfl, asmEffect, onChecksumByte, dispatch_eq]
    have heffect := showsRows_frameEffect (s := { storeFaBuf s.faPos.toNat b (clearPulses s) with faIn := false, faPos := 0 })
      ⟨rfl, rfl, rfl⟩ (candidate b s) (frameClass (frameSignals s) (candidate b s))
    exact { heffect with }
  all_goals
    rw [frameRow_of_pop_eq_none hrow hb hc nofun]
    exact { showsRows_clearPulses s with }

/-- R285, R286: an accepted request shows in the outputs only as its report. -/
theorem showsRows_acceptRequest (s : State) :
    ShowsRows none (some (hostRow s.ports.host.reqKind)) s (acceptRequest (clearPulses s)) := by
  have hclear := noPulse_clearPulses s
  rcases acceptRequest_reportOf (clearPulses s) with ⟨hnone, id, P, e⟩ | ⟨hreport, e⟩ <;> rw [e]
  · have hquiet : ShowsRows none _ _ _ := hclear.showsRows_silent (h := some _) hnone rfl nofun
    exact { hquiet with }
  · exact { hclear.showsRows_report hreport with }

/-- R281: after an R step the outputs are those of its frame row and its host row. -/
theorem showsRows_rEdge {t : State} {d : Draw} {rest : List Stimulus} (h : RStepAt s d rest) (ht : rEdge s = .next t) :
    ShowsRows (frameRow s) (hostPortRow s) s t := by
  rcases rEdge_next ht with ⟨hrow, -⟩ | ⟨hrow, -, -, rfl⟩ | ⟨hrow, -, -, rfl⟩ | ⟨hrow, -, rfl⟩ |
    ⟨b, c, hrow, -, -, -, hb, hc, rfl⟩ | ⟨hrow, rfl⟩
  case inl =>
    rw [rRow_of_rStepAt h] at hrow
    cases hrow
  case inr.inr.inr.inl =>
    rw [frameRow_eq_none (by simp [hrow]), hostPortRow_of_hostReq hrow]
    exact (showsRows_acceptRequest s).after_finishR
  case inr.inr.inr.inr.inl =>
    rw [hostPortRow_eq_none (by simp [hrow])]
    exact ShowsRows.after_finishR { showsRows_asmEffect hrow hb hc with }
  all_goals
    have hpop : rRow s ≠ some .pop := by intro e; simp [e] at hrow
    have hreq : rRow s ≠ some .hostReq := by intro e; simp [e] at hrow
    rw [frameRow_eq_none hpop, hostPortRow_eq_none hreq]
    refine ShowsRows.after_finishR ?_
  case inr.inl => exact (showsRows_clearPulses s).after_advanceTx
  all_goals exact { showsRows_clearPulses s with }

end

/-- Settles O57: the outputs of the edge, with `latchedByEdge` as the latch of its frame row. -/
theorem pulsesLastOneCycle : Obligations.PulsesLastOneCycle := by
  intro s t d rest h ht
  rw [step_of_rclk h.1] at ht
  obtain ⟨hbcast, htxc, hvalid, hkind, hlatched, hkept⟩ := showsRows_rEdge h ht
  rw [latchedByEdge_eq]
  exact ⟨hbcast, htxc, hvalid, hkind, hlatched, hkept⟩

end Sys2Proof.Machine

/-! PROOFS. Reset and its release (R330 to R334, R45), and what an R edge consumes (R342): the reset state and its assertion, the
edges of a domain in reset, the reset synchronisers' invariant. O37, O39, O40, O50, O58. -/
namespace Sys2Proof.Machine

open Sys2Proof

/-! ### The reset state and the assertion of `rst_n` -/

/-- R46: equal pointers have no distance, for every AW. -/
theorem occ_resetOf (p : Params) : occ (State.resetOf p) = 0 := by
  rw [← BitVec.toNat_inj]
  exact Params.dist_self (a := 0) (Nat.two_pow_pos _)

/-- Settles O37: the registers have their values by the definition; the flip-flops of a synchroniser are S zeros. -/
theorem resetValues : Obligations.ResetValues := by
  refine ⟨rfl, fun p => ?_⟩
  have hflops := Sync.toList_zero p
  exact ⟨rfl, rfl, hflops, rfl, rfl, hflops, rfl, rfl, rfl, rfl, rfl, rfl, rfl, rfl, rfl, rfl, rfl, rfl, rfl, rfl, occ_resetOf p⟩

/-- R330, R332: the assertion of `rst_n` needs no edge. -/
theorem driveReset_assert (s : State) : driveReset false s = { assertReset s with stimulus := s.stimulus.tail } := rfl

/-- Settles O39: the event's next state is `assertReset`, whose registers are those of the reset state. -/
theorem resetAssertionResetsBothDomains : Obligations.ResetAssertionResetsBothDomains := by
  intro s rest hs
  refine ⟨_, step_of_reset hs, ?_, rfl, rfl, rfl, rfl, rfl⟩
  rw [driveReset_assert, hs, List.tail_cons]
  rfl

/-! ### The edges of a domain in reset -/

section
variable {s : State} {i : Instr}

/-- R330, R331: a domain that takes a step is out of reset. -/
theorem released_of_wRow (h : wRow s = some i) : s.ports.rstN = true ∧ s.wRst.ff2 = true := by
  obtain ⟨d, rest, hs⟩ := exists_wclk_of_wRow h
  have hstep : wStep s = true := by
    have hsel := wSelects_of_wRow h
    rw [wSelects, Bool.and_eq_true] at hsel
    exact hsel.1
  rwa [wStep_of_wclk hs, Bool.and_eq_true] at hstep

/-- The same of the R domain. -/
theorem released_of_rRow (h : rRow s = some i) : s.ports.rstN = true ∧ s.rRst.ff2 = true := by
  obtain ⟨d, rest, hs⟩ := exists_rclk_of_rRow h
  have hstep : rStep s = true := by
    have hsel := rSelects_of_rRow h
    rw [rSelects, Bool.and_eq_true] at hsel
    exact hsel.1
  rwa [rStep_of_rclk hs, Bool.and_eq_true] at hstep

theorem wRow_eq_none_of_reset (h : s.ports.rstN = false ∨ s.wRst.ff2 = false) : wRow s = none := by
  refine Option.eq_none_iff_forall_ne_some.2 fun i hi => ?_
  obtain ⟨hrst, hff⟩ := released_of_wRow hi
  simp [hrst, hff] at h

theorem rRow_eq_none_of_reset (h : s.ports.rstN = false ∨ s.rRst.ff2 = false) : rRow s = none := by
  refine Option.eq_none_iff_forall_ne_some.2 fun i hi => ?_
  obtain ⟨hrst, hff⟩ := released_of_rRow hi
  simp [hrst, hff] at h

end

/-- Settles O40: in reset no row is selected, and the edge without a row clocks the reset synchroniser. -/
theorem edgesInResetOnlyClockTheRelease : Obligations.EdgesInResetOnlyClockTheRelease := by
  refine fun s d rest => ⟨fun hs hreset => ?wclk, fun hs hreset => ?rclk⟩
  case wclk =>
    rw [step_of_wclk hs, wEdge_of_no_row (wRow_eq_none_of_reset hreset), wEdgeInReset, hs, List.tail_cons]
    rfl
  case rclk =>
    rw [step_of_rclk hs, rEdge_of_no_row (rRow_eq_none_of_reset hreset), rEdgeInReset, hs, List.tail_cons]
    rfl

/-! ### What an R edge consumes -/

/-- The read pointer and the assembler hold in `t` what they hold in `s`. -/
structure SameIntake (s t : State) : Prop where
  rbin : t.rbin = s.rbin
  rgray : t.rgray = s.rgray
  faIn : t.faIn = s.faIn
  faPos : t.faPos = s.faPos
  faBuf : t.faBuf = s.faBuf

theorem SameIntake.after_finishR {s u : State} (h : SameIntake s u) : SameIntake s (finishR u) where
  rbin := (finishR_rbin u).trans h.rbin
  rgray := (finishR_rgray u).trans h.rgray
  faIn := (finishR_faIn u).trans h.faIn
  faPos := (finishR_faPos u).trans h.faPos
  faBuf := (finishR_faBuf u).trans h.faBuf

theorem advanceTx_intake (s : State) : (advanceTx s).rRst = s.rRst ∧ SameIntake s (advanceTx s) := by
  unfold advanceTx
  split <;> exact ⟨rfl, by constructor <;> rfl⟩

theorem acceptRequest_intake (s : State) : (acceptRequest s).rRst = s.rRst ∧ SameIntake s (acceptRequest s) := by
  rcases acceptRequest_cases s with ⟨id, P, -, e⟩ | e <;> rw [e] <;> exact ⟨rfl, by constructor <;> rfl⟩

theorem asmEffect_rRst (b : Byte) (s : State) (c : AsmCase) : (asmEffect b s c).rRst = s.rRst := by
  obtain ⟨_, _, _, _, _, _, _, _, _, _, _, _, _, _, e⟩ := asmEffect_frame b s c
  rw [e]

/-- R135, R160: of the rows of an R edge only POP consumes a byte, and none writes the reset synchroniser. -/
theorem rEdge_intake {s t : State} (h : rEdge s = .next t) :
    (rRow s = none ∧ t = rEdgeInReset s) ∨
    ((∃ i, rRow s = some i) ∧ t.rRst = s.rRst ∧ (rRow s = some .pop ∨ SameIntake s t)) := by
  rcases rEdge_next h with hreset | ⟨hrow, -, -, rfl⟩ | ⟨hrow, -, -, rfl⟩ | ⟨hrow, -, rfl⟩ | ⟨b, c, hrow, -, -, -, -, -, rfl⟩ |
    ⟨hrow, rfl⟩
  case inl => exact .inl hreset
  all_goals rw [finishR_rRst]; right
  case inr.inl =>
    obtain ⟨hrst, hintake⟩ := advanceTx_intake (clearPulses s)
    exact ⟨⟨_, hrow⟩, hrst, .inr (SameIntake.after_finishR { hintake with })⟩
  case inr.inr.inl => exact ⟨⟨_, hrow⟩, rfl, .inr (SameIntake.after_finishR (by constructor <;> rfl))⟩
  case inr.inr.inr.inl =>
    obtain ⟨hrst, hintake⟩ := acceptRequest_intake (clearPulses s)
    exact ⟨⟨_, hrow⟩, hrst, .inr (SameIntake.after_finishR { hintake with })⟩
  case inr.inr.inr.inr.inl => exact ⟨⟨_, hrow⟩, asmEffect_rRst b (clearPulses s) c, .inl hrow⟩
  case inr.inr.inr.inr.inr =>
    refine ⟨?_, rfl, .inr (SameIntake.after_finishR (by constructor <;> rfl))⟩
    rcases hrow with hrow | hrow | hrow | hrow <;> exact ⟨_, hrow⟩

/-- R173, R282: a POP is selected only with nothing to transmit and outside Idle. -/
theorem rRow_ne_pop_of_transmitting_or_idle {s : State} (h : s.txActive = true ∨ s.stage = .idle) : rRow s ≠ some .pop := by
  intro hrow
  have hcases := rRow_cases hrow
  simp only [reduceCtorEq, false_and, true_and, false_or, or_false] at hcases
  obtain ⟨hactive, hstage, -⟩ := hcases
  simp [hactive, hstage] at h

/-- Settles O58: the edge's row is not POP, and no other row consumes a byte. -/
theorem noConsumptionWhileTransmittingOrIdle : Obligations.NoConsumptionWhileTransmittingOrIdle := by
  intro s t d rest hs ht hbusy
  rw [step_of_rclk hs] at ht
  rcases rEdge_intake ht with ⟨-, rfl⟩ | ⟨-, -, hpop | hintake⟩
  · exact ⟨rfl, rfl, rfl, rfl, rfl⟩
  · exact absurd hpop (rRow_ne_pop_of_transmitting_or_idle hbusy)
  · exact ⟨hintake.rbin, hintake.rgray, hintake.faIn, hintake.faPos, hintake.faBuf⟩

/-! ### The reset synchronisers' invariant, one domain at a time -/

/-- What `ResetInv` says of one domain: of its reset synchroniser `r` under `rst_n`, and, while `r` has not released the
domain, of its registers (`resetInv_iff`). -/
structure ReleaseInv (rstN : Bool) (r : ResetSync) (held : Prop) : Prop where
  /-- R331: the synchroniser fills from the front. -/
  fills : r.ff2 = true → r.ff1 = true
  cleared : rstN = false → r.ff1 = false
  held_in_reset : r.ff2 = false → held

namespace ReleaseInv

variable {rstN : Bool} {r : ResetSync} {held held' : Prop}

/-- A clock edge of the synchroniser releases the domain or leaves it as it was. -/
theorem clock (h : ReleaseInv rstN r held) : ReleaseInv rstN (r.clock rstN) held := by
  cases rstN with
  | false =>
    have hff2 : r.ff2 = false := Bool.eq_false_iff.2 fun h2 => by simpa [h.fills h2] using h.cleared
    exact ⟨nofun, fun _ => rfl, fun _ => h.held_in_reset hff2⟩
  | true =>
    refine ⟨fun _ => rfl, nofun, fun hff1 => h.held_in_reset ?_⟩
    exact Bool.eq_false_iff.2 fun h2 => Bool.false_ne_true (hff1.symm.trans (h.fills h2))

/-- A domain out of reset may write its registers. -/
theorem of_released (h : ReleaseInv rstN r held) (hff2 : r.ff2 = true) : ReleaseInv rstN r held' :=
  ⟨h.fills, h.cleared, fun hff2' => absurd (hff2.symm.trans hff2') nofun⟩

/-- R331: the release of `rst_n` by itself releases no domain. -/
theorem release (h : ReleaseInv rstN r held) : ReleaseInv true r held := ⟨h.fills, nofun, h.held_in_reset⟩

/-- R330: the assertion of `rst_n` clears the synchroniser. -/
theorem of_assert (hheld : held) : ReleaseInv false ⟨false, false⟩ held := ⟨nofun, fun _ => rfl, fun _ => hheld⟩

end ReleaseInv

/-- The W domain's registers have their reset values (R45; `mem` as in log 5). -/
def WHeld (s : State) : Prop := s.wbin = 0 ∧ s.wgray = 0 ∧ s.rq = .zero s.par ∧ s.mem = []

/-- The R domain's registers have their reset values (R45). -/
def RHeld (s : State) : Prop :=
  s.rbin = 0 ∧ s.rgray = 0 ∧ s.wq = .zero s.par ∧ s.faIn = false ∧ s.faPos = 0 ∧ s.cfgQ = .zero ∧ s.stage = .idle ∧
  s.txActive = false ∧ s.txLen = 0 ∧ s.txIdx = 0 ∧ s.bcastEvt = false ∧ s.txcEvt = false ∧ s.diagValid = false ∧
  s.diagKind = .none ∧ s.outFrame = Vector.replicate 21 0 ∧ s.outLen = 0

def WResetInv (s : State) : Prop := ReleaseInv s.ports.rstN s.wRst (WHeld s)

def RResetInv (s : State) : Prop := ReleaseInv s.ports.rstN s.rRst (RHeld s)

section
variable {s t : State}

theorem resetInv_iff : ResetInv s ↔ WResetInv s ∧ RResetInv s := by
  constructor
  · intro ⟨hwfills, hrfills, hcleared, hwheld, hrheld⟩
    exact ⟨⟨hwfills, fun h => (hcleared h).1, hwheld⟩, ⟨hrfills, fun h => (hcleared h).2, hrheld⟩⟩
  · intro ⟨hw, hr⟩
    exact ⟨hw.fills, hr.fills, fun h => ⟨hw.cleared h, hr.cleared h⟩, hw.held_in_reset, hr.held_in_reset⟩

/-- A W edge clocks the release, or runs a row, which only a released domain does. -/
theorem wResetInv_wEdge (h : WResetInv s) (ht : wEdge s = .next t) : WResetInv t := by
  have runs {i : Instr} {u : State} (hrow : wRow s = some i) (hports : u.ports = s.ports) (hrst : u.wRst = s.wRst) :
      WResetInv u := by
    rw [WResetInv, hports, hrst]
    exact ReleaseInv.of_released h (released_of_wRow hrow).2
  rcases wEdge_next ht with ⟨-, rfl⟩ | ⟨hrow, -, -, rfl⟩ | ⟨hrow | hrow, rfl⟩
  · exact ReleaseInv.clock h
  · exact runs hrow (finishW_ports _) (finishW_wRst _)
  all_goals exact runs hrow (finishW_ports s) (finishW_wRst s)

/-- The same of an R edge. -/
theorem rResetInv_rEdge (h : RResetInv s) (hports : t.ports = s.ports) (ht : rEdge s = .next t) : RResetInv t := by
  rcases rEdge_intake ht with ⟨-, rfl⟩ | ⟨⟨i, hrow⟩, hrst, -⟩
  · exact ReleaseInv.clock h
  · rw [RResetInv, hports, hrst]
    exact ReleaseInv.of_released h (released_of_rRow hrow).2

/-- R80: a W edge writes nothing the R domain's clause reads. -/
theorem rResetInv_wclk {d : Draw} {rest : List Stimulus} (hs : s.stimulus = .wclk d :: rest) (h : RResetInv s)
    (ht : step s = .next t) : RResetInv t := by
  rw [(eachDomainWritesItsOwnState s t d rest ht).1 hs]
  exact h

/-- R80: an R edge writes nothing the W domain's clause reads. -/
theorem wResetInv_rclk {d : Draw} {rest : List Stimulus} (hs : s.stimulus = .rclk d :: rest) (h : WResetInv s)
    (ht : step s = .next t) : WResetInv t := by
  obtain ⟨hpar, hports, hrst, hwbin, hwgray, hrq, hmem, -⟩ := (eachDomainWritesItsOwnState s t d rest ht).2 hs
  rw [WResetInv, WHeld, hpar, hports, hrst, hwbin, hwgray, hrq, hmem]
  exact h

end

/-- Settles O50: a domain's own edge clocks its release or finds it released, the other domain's edge does not touch it, and
an assertion of reset gives both their reset values. -/
theorem resetInvariantIsKept : Obligations.ResetInvariantIsKept := by
  intro s t h hst
  rw [resetInv_iff] at h ⊢
  obtain ⟨hw, hr⟩ := h
  rcases step_next hst with ⟨-, rfl⟩ | ⟨d, rest, hs, ht⟩ | ⟨d, rest, hs, ht⟩ | ⟨_, _, _, -, rfl⟩ | ⟨_, _, -, rfl⟩ |
    ⟨_, _, -, rfl⟩ | ⟨_, -, rfl⟩ | ⟨_, -, rfl⟩
  case inr.inl => exact ⟨wResetInv_wEdge hw ht, rResetInv_wclk hs hr hst⟩
  case inr.inr.inl =>
    obtain ⟨-, hports, -⟩ := (eachDomainWritesItsOwnState s t d rest hst).2 hs
    exact ⟨wResetInv_rclk hs hw hst, rResetInv_rEdge hr hports ht⟩
  case inr.inr.inr.inr.inr.inr.inl => exact ⟨ReleaseInv.release hw, ReleaseInv.release hr⟩
  case inr.inr.inr.inr.inr.inr.inr =>
    exact ⟨ReleaseInv.of_assert ⟨rfl, rfl, rfl, rfl⟩,
      ReleaseInv.of_assert ⟨rfl, rfl, rfl, rfl, rfl, rfl, rfl, rfl, rfl, rfl, rfl, rfl, rfl, rfl, rfl, rfl⟩⟩
  all_goals exact ⟨hw, hr⟩

end Sys2Proof.Machine
